-- ==== Sys2Proof/Word.lean ====
section
/-! DEFINITION. The word types of the band engine: command words (`00_scope.md` R8, CMDW = 16), column bytes
(`20_memory.md` R61) and the 4-bit fields of a header word (`30_encoding.md` R92). -/

namespace Sys2Proof

/-- A command word, CMDW = 16 bits (R8, R90). -/
abbrev Word := BitVec 16

/-- One column byte of `BUF` or of `GLYPH` (R60, R62). -/
abbrev Byte := BitVec 8

/-- A 4-bit header field, `AUX` or `COL` (R92), and the width of `FAULT` (R36). -/
abbrev Nibble := BitVec 4

end Sys2Proof
end

