-- ==== Sys2Proof/Config.lean ====
section
/-! DEFINITION. What an implementation fixes: the parameter tuple of `00_scope.md` R8, its constraints and derived
widths, and the free values (what the spec says is any value). -/

namespace Sys2Proof

/-- The parameter tuple of R8. The spec leaves every entry OPEN, so a model takes the tuple as an argument:
it is a field of the state that no step changes, and statements hold for every tuple (log 1).
`glyph` lists the bytes of the glyph ROM that the build names, keyed by `5 * c + i` for character `c`, column `i`
(R62); a byte that it does not name is `Config.glyphByte c i` (log 2). -/
structure Params where
  width : Nat
  height : Nat
  boundsCheck : Bool
  tickw : Nat
  glyph : List Host.Cell
deriving DecidableEq, Repr

/-- The constraints R8 puts on the parameters (and R9 on HEIGHT). -/
abbrev Params.Legal (p : Params) : Prop :=
  1 ≤ p.width ∧ p.width ≤ 32767 ∧ p.height % 8 = 0 ∧ 8 ≤ p.height ∧ p.height ≤ 32760 ∧ 12 ≤ p.tickw

/-- NBANDS = HEIGHT / 8 (R8). -/
def Params.nbands (p : Params) : Nat := p.height / 8

/-- CURW, the least n with 2^n > HEIGHT (R8). -/
def Params.curw (p : Params) : Nat := Nat.log2 p.height + 1

/-- RESPW = TICKW + 7 (R8). -/
def Params.respw (p : Params) : Nat := p.tickw + 7

namespace Config

/-- The parameters of `State.reset`: the values R8 recommends (WIDTH 128, HEIGHT 64, BOUNDS_CHECK 1, TICKW 32);
no glyph byte is named, since the spec gives no glyph data.
DESIGN CHOICE, unsafe: R8 leaves all of them OPEN (log 1). -/
def recommended : Params :=
  { width := 128, height := 64, boundsCheck := true, tickw := 32, glyph := [] }

/-- FREE VALUE, safe: the byte that column `x` of `BUF` holds after the `n`-th reset, until a command writes it (R60, R262:
"any value"). It has no body, so nothing can be proved of it (log 3). -/
opaque bufReset (n x : Nat) : BitVec 8

/-- FREE VALUE, safe: the byte of column `i` of glyph `c` in a ROM whose build does not name it (R8: `GLYPH` is OPEN;
R62, R215). It has no body (log 2). -/
opaque glyphByte (c i : Nat) : BitVec 8

end Config

end Sys2Proof
end

