-- ==== Sys2Proof/Machine/State.lean ====
section
/-! DEFINITION. The state of the band engine (`10_state.md` R20, `20_memory.md` R60), the interfaces it talks through
(`60_exceptions.md` R243), the outcomes of a step and the state after reset (`70_reset_and_hazards.md` R260, R262). -/

namespace Sys2Proof.Machine

/-- Why the machine stops with a fault: never. The faults of R231 are sticky bits of `FAULT`; raising one sets its bit
and nothing else (R232), and after an illegal command the block goes on discarding words (R37). So nothing raises
a `Fault`, and the type has no constructor (log 13). -/
inductive Fault where
deriving DecidableEq, Repr

/-- Why an instruction has no meaning in this model. -/
inductive Refusal where
  /-- Raised by an arm of `exec` whose instruction has no meaning yet (no arm is left so). Safe: nothing is
  claimed of the instruction. -/
  | notModelled (mnemonic : String)
deriving DecidableEq, Repr

/-- A paint event (R246): the value of `cursor` when the `FLUSH` executed, and the WIDTH column bytes, `BUF[0]` first. -/
structure Paint where
  cursor : Nat
  bytes : List Byte
deriving DecidableEq, Repr

/-- One move of one agent (R18), or of the reset input (R260). -/
inductive Turn where
  /-- The host sends one command word (R90). -/
  | hostSend (w : Word)
  /-- The host consumes the next response word (R278). -/
  | hostRead
  /-- The band engine accepts words and executes (R91). -/
  | engine
  /-- The tick source delivers a tick event (R240). -/
  | tick
  /-- The transport becomes ready to take paint events, or stops being so (R246). -/
  | transport (ready : Bool)
  /-- The reset input is asserted (R260). -/
  | reset
deriving DecidableEq, Repr

/-- `BUF` as (column, byte) pairs: the columns that a command has written since the last reset, in rising order.
A column that is not listed has no written value; it holds the free value `Config.bufReset` (R60, log 3). -/
abbrev Memory := List Host.Cell

/-- Everything the spec gives the machine. A register of TICKW or CURW bits is held as the number it reads as; every write
to it is taken modulo 2^TICKW or 2^CURW (R10, log 11). -/
structure State where
  /-- The parameter tuple of R8; no step changes it (R215, R262). -/
  build : Params
  /-- `BUF` (R60). -/
  buf : Memory
  /-- `cursor`, CURW bits (R24). -/
  cursor : Nat
  /-- `frameRate` (R25). -/
  frameRate : BitVec 16
  /-- `framePeriod` (R26). -/
  framePeriod : BitVec 16
  /-- `nextFrameStart`, TICKW bits (R27). -/
  nextFrameStart : Nat
  /-- `lastFrameStart`, TICKW bits (R28). -/
  lastFrameStart : Nat
  /-- `lastFrameDuration`, TICKW bits (R29). -/
  lastFrameDuration : Nat
  /-- `frameCounter` (R30). -/
  frameCounter : BitVec 16
  /-- `pendingFlush` (R31). -/
  pendingFlush : Bool
  /-- `tickCount`, TICKW bits (R32). -/
  tickCount : Nat
  /-- `FAULT` (R36). -/
  fault : BitVec 4
  /-- `locked` (R37). -/
  locked : Bool
  /-- `sleeping` (R38). -/
  sleeping : Bool
  /-- The words of a command that is not complete (R44). -/
  held : List Word
  /-- The command channel: words sent and not yet accepted (R90). -/
  channel : List Word
  /-- The response channel: the response words produced, oldest first (R101, R43). -/
  responses : List Nat
  /-- How many response words the host has consumed (R278). -/
  responsesRead : Nat
  /-- The paint channel: the paint events handed over, oldest first (R246, R43). -/
  paints : List Paint
  /-- Whether the transport takes a paint event now (R246). -/
  transportReady : Bool
  /-- The model's own: which agent moves next; when it is empty, the band engine (log 4). -/
  schedule : List Turn
  /-- The model's own: how many resets there have been, the argument of the free value `Config.bufReset` (log 3). -/
  resets : Nat
deriving DecidableEq, Repr

/-- The state right after reset of a block built with parameters `p` (R260, R262), before the host, the tick source or
the transport has moved. -/
def State.resetWith (p : Params) : State :=
  { build := p
    buf := []
    cursor := 0
    frameRate := 0
    framePeriod := 0
    nextFrameStart := 0
    lastFrameStart := 0
    lastFrameDuration := 0
    frameCounter := 0
    pendingFlush := false
    tickCount := 0
    fault := 0b0000#4
    locked := false
    sleeping := false
    held := []
    channel := []
    responses := []
    responsesRead := 0
    paints := []
    transportReady := true
    schedule := []
    resets := 0 }

/-- The machine right after reset, built with the parameters that R8 recommends (log 1). -/
def State.reset : State := State.resetWith Config.recommended

end Sys2Proof.Machine
end

