-- ==== Sys2Proof/Machine/Flags.lean ====
section
/-! DEFINITION. The bits of `FAULT` (`60_exceptions.md` R231) and the conditions that commands test: the deadline test
of `POLL` (`40_pacer.md` R125) and the row overlap of the predicates (`46_predicates.md` R221). The band engine has no
condition codes (`10_state.md` R23). -/

namespace Sys2Proof.Machine

/-- The four sticky faults (R231). -/
inductive FaultBit where
  | illegal
  | divzero
  | flushx
  | oob
deriving DecidableEq, Repr

/-- The code of a fault: its bit position in `FAULT` (R231). -/
def FaultBit.code : FaultBit → Nat
  | .illegal => 0
  | .divzero => 1
  | .flushx => 2
  | .oob => 3

/-- The bit of `FAULT` that a fault sets (R232). -/
def FaultBit.bit (f : FaultBit) : BitVec 4 := 1#4 <<< f.code

/-- `(a - b) mod 2^t`: a difference of tick values (R120, R12). -/
def tickDiff (t a b : Nat) : Nat := (((a : Int) - (b : Int)) % ((2 ^ t : Nat) : Int)).toNat

/-- `Early(slack)`: the modular difference, read as a signed `t`-bit number, is positive (R125). -/
def early (t slack : Nat) : Bool := 0 < slack && slack < 2 ^ (t - 1)

/-- The rows `y .. y+h-1` and the band `cursor .. cursor+7` have a row in common (R221). -/
def rowsOverlap (cursor : Nat) (y h : Int) : Bool := 0 < h && y < cursor + 8 && (cursor : Int) < y + h

/-- A boolean response word: 1 (true) or 0 (false) (R101). -/
def boolWord (b : Bool) : Nat := if b then 1 else 0

end Sys2Proof.Machine
end

