-- ==== Sys2Proof/Syntax.lean ====
section
/-! DEFINITION. The 26 commands of the band engine (`30_encoding.md` R96), one constructor per row of
`spec/opcode_table.json`, operands in the assembler order of R103. -/

namespace Sys2Proof

/-- A command with its operands as they stand in its words (R93): operand words of 16 bits, the byte operands of
`CHAR`, and the 4-bit header fields. Three rows carry a whole field of which some bits must be zero
(`FCIRCLEQ`: `sides` is `AUX`; `CHAR1`: `w3`; `HITGLYPH`: `w2`); `Instr.WellFormed` says which. -/
inductive Instr where
  | setrate (rate : Word)
  | poll
  | load
  | everyn (n : Word)
  | faults
  | needs
  | clear (col : Nibble)
  | pixel (x y : Word) (col : Nibble)
  | flush
  | vline (x y h : Word) (col : Nibble)
  | hline (x y w : Word) (col : Nibble)
  | line (x0 y0 x1 y1 : Word) (col : Nibble)
  | rect (x y w h : Word) (col : Nibble)
  | frect (x y w h : Word) (col : Nibble)
  | circle (x0 y0 r : Word) (col : Nibble)
  | circleq (x0 y0 r : Word) (corners col : Nibble)
  | fcircle (x0 y0 r : Word) (col : Nibble)
  | fcircleq (x0 y0 r delta : Word) (sides col : Nibble)
  | rrect (x y w h r : Word) (col : Nibble)
  | frrect (x y w h r : Word) (col : Nibble)
  | tri (x0 y0 x1 y1 x2 y2 : Word) (col : Nibble)
  | ftri (x0 y0 x1 y1 x2 y2 : Word) (col : Nibble)
  | char (x y : Word) (ch size : Byte) (bg fg : Nibble)
  | char1 (x y w3 : Word) (bg fg : Nibble)
  | hitspan (y h : Word)
  | hitglyph (y w2 : Word)
deriving DecidableEq, Repr

end Sys2Proof
end

