-- ==== Sys2Proof/WellFormed.lean ====
section
/-! DEFINITION. Which terms of `Instr` are commands: the must-be-zero fields that a term can carry
(`30_encoding.md` R95, R99). -/

namespace Sys2Proof

/-- The must-be-zero bits: header bits 7:6 of `FCIRCLEQ` (R95), `W3[15:8]` of `CHAR1` and `W2[15:8]` of `HITGLYPH`
(R99 b). Every other operand is legal at every value. -/
def Instr.wellFormed : Instr → Bool
  | .setrate _ => true
  | .poll => true
  | .load => true
  | .everyn _ => true
  | .faults => true
  | .needs => true
  | .clear _ => true
  | .pixel _ _ _ => true
  | .flush => true
  | .vline _ _ _ _ => true
  | .hline _ _ _ _ => true
  | .line _ _ _ _ _ => true
  | .rect _ _ _ _ _ => true
  | .frect _ _ _ _ _ => true
  | .circle _ _ _ _ => true
  | .circleq _ _ _ _ _ => true
  | .fcircle _ _ _ _ => true
  | .fcircleq _ _ _ _ sides _ => sides.extractLsb' 2 2 == 0
  | .rrect _ _ _ _ _ _ => true
  | .frrect _ _ _ _ _ _ => true
  | .tri _ _ _ _ _ _ _ => true
  | .ftri _ _ _ _ _ _ _ => true
  | .char _ _ _ _ _ _ => true
  | .char1 _ _ w3 _ _ => w3.extractLsb' 8 8 == 0
  | .hitspan _ _ => true
  | .hitglyph _ w2 => w2.extractLsb' 8 8 == 0

/-- A term that stands for a command of R96; every other term stands for an illegal one (R99). -/
abbrev Instr.WellFormed (i : Instr) : Prop := i.wellFormed = true

end Sys2Proof
end

