-- ==== Sys2Proof/Decode.lean ====
section
/-! DEFINITION. The command table of `30_encoding.md` R96, the decoder (total, R98, R99), the encoder (R92, R93),
and the layout of a command as the opcode table numbers its bits. -/

namespace Sys2Proof

/-- The rows of the command table, in the table's order (R96). -/
inductive Opcode where
  | setrate | poll | load | everyn | faults
  | needs | clear | pixel | flush
  | vline | hline | line | rect | frect
  | circle | circleq | fcircle | fcircleq | rrect | frrect
  | tri | ftri
  | char | char1
  | hitspan | hitglyph
deriving DecidableEq, Repr

/-- The 26 rows of R96. -/
def Opcode.all : List Opcode :=
  [.setrate, .poll, .load, .everyn, .faults, .needs, .clear, .pixel, .flush, .vline, .hline, .line, .rect, .frect,
   .circle, .circleq, .fcircle, .fcircleq, .rrect, .frrect, .tri, .ftri, .char, .char1, .hitspan, .hitglyph]

/-- The column `OP` of R96. -/
def Opcode.code : Opcode → Byte
  | .setrate => 0x01#8
  | .poll => 0x02#8
  | .load => 0x03#8
  | .everyn => 0x04#8
  | .faults => 0x05#8
  | .needs => 0x10#8
  | .clear => 0x11#8
  | .pixel => 0x12#8
  | .flush => 0x13#8
  | .vline => 0x20#8
  | .hline => 0x21#8
  | .line => 0x22#8
  | .rect => 0x23#8
  | .frect => 0x24#8
  | .circle => 0x30#8
  | .circleq => 0x31#8
  | .fcircle => 0x32#8
  | .fcircleq => 0x33#8
  | .rrect => 0x34#8
  | .frrect => 0x35#8
  | .tri => 0x40#8
  | .ftri => 0x41#8
  | .char => 0x50#8
  | .char1 => 0x51#8
  | .hitspan => 0x60#8
  | .hitglyph => 0x61#8

/-- The column `mask` of R96. -/
def Opcode.mask : Opcode → Word
  | .setrate => 0xFFFF#16
  | .poll => 0xFFFF#16
  | .load => 0xFFFF#16
  | .everyn => 0xFFFF#16
  | .faults => 0xFFFF#16
  | .needs => 0xFFFF#16
  | .clear => 0xFFF0#16
  | .pixel => 0xFFF0#16
  | .flush => 0xFFFF#16
  | .vline => 0xFFF0#16
  | .hline => 0xFFF0#16
  | .line => 0xFFF0#16
  | .rect => 0xFFF0#16
  | .frect => 0xFFF0#16
  | .circle => 0xFFF0#16
  | .circleq => 0xFF00#16
  | .fcircle => 0xFFF0#16
  | .fcircleq => 0xFFC0#16
  | .rrect => 0xFFF0#16
  | .frrect => 0xFFF0#16
  | .tri => 0xFFF0#16
  | .ftri => 0xFFF0#16
  | .char => 0xFF00#16
  | .char1 => 0xFF00#16
  | .hitspan => 0xFFFF#16
  | .hitglyph => 0xFFFF#16

/-- The column `match` of R96. -/
def Opcode.pattern : Opcode → Word
  | .setrate => 0x0100#16
  | .poll => 0x0200#16
  | .load => 0x0300#16
  | .everyn => 0x0400#16
  | .faults => 0x0500#16
  | .needs => 0x1000#16
  | .clear => 0x1100#16
  | .pixel => 0x1200#16
  | .flush => 0x1300#16
  | .vline => 0x2000#16
  | .hline => 0x2100#16
  | .line => 0x2200#16
  | .rect => 0x2300#16
  | .frect => 0x2400#16
  | .circle => 0x3000#16
  | .circleq => 0x3100#16
  | .fcircle => 0x3200#16
  | .fcircleq => 0x3300#16
  | .rrect => 0x3400#16
  | .frrect => 0x3500#16
  | .tri => 0x4000#16
  | .ftri => 0x4100#16
  | .char => 0x5000#16
  | .char1 => 0x5100#16
  | .hitspan => 0x6000#16
  | .hitglyph => 0x6100#16

/-- N, the number of operand words: the column `Fmt` of R96 with R94. -/
def Opcode.operands : Opcode → Nat
  | .setrate => 1
  | .poll => 0
  | .load => 0
  | .everyn => 1
  | .faults => 0
  | .needs => 0
  | .clear => 0
  | .pixel => 2
  | .flush => 0
  | .vline => 3
  | .hline => 3
  | .line => 4
  | .rect => 4
  | .frect => 4
  | .circle => 3
  | .circleq => 3
  | .fcircle => 3
  | .fcircleq => 4
  | .rrect => 5
  | .frrect => 5
  | .tri => 6
  | .ftri => 6
  | .char => 3
  | .char1 => 3
  | .hitspan => 2
  | .hitglyph => 2

/-- `AUX = H[7:4]` (R92). -/
def auxOf (h : Word) : Nibble := h.extractLsb' 4 4

/-- `COL = H[3:0]` (R92). -/
def colOf (h : Word) : Nibble := h.extractLsb' 0 4

/-- `v[15:8]` of a word (R11). -/
def highByte (w : Word) : Byte := w.extractLsb' 8 8

/-- `v[7:0]` of a word (R11). -/
def lowByte (w : Word) : Byte := w.extractLsb' 0 8

/-- The row that a header word selects: the one with `H & mask = match` (R95). -/
def Opcode.ofHeader (h : Word) : Option Opcode :=
  Opcode.all.find? fun o => h &&& o.mask == o.pattern

/-- The command of a row, from its header word `h` and its operand words, `w k` being Wk (R93, R96). -/
def Opcode.instr (o : Opcode) (h : Word) (w : Nat → Word) : Instr :=
  match o with
  | .setrate => .setrate (w 1)
  | .poll => .poll
  | .load => .load
  | .everyn => .everyn (w 1)
  | .faults => .faults
  | .needs => .needs
  | .clear => .clear (colOf h)
  | .pixel => .pixel (w 1) (w 2) (colOf h)
  | .flush => .flush
  | .vline => .vline (w 1) (w 2) (w 3) (colOf h)
  | .hline => .hline (w 1) (w 2) (w 3) (colOf h)
  | .line => .line (w 1) (w 2) (w 3) (w 4) (colOf h)
  | .rect => .rect (w 1) (w 2) (w 3) (w 4) (colOf h)
  | .frect => .frect (w 1) (w 2) (w 3) (w 4) (colOf h)
  | .circle => .circle (w 1) (w 2) (w 3) (colOf h)
  | .circleq => .circleq (w 1) (w 2) (w 3) (auxOf h) (colOf h)
  | .fcircle => .fcircle (w 1) (w 2) (w 3) (colOf h)
  | .fcircleq => .fcircleq (w 1) (w 2) (w 3) (w 4) (auxOf h) (colOf h)
  | .rrect => .rrect (w 1) (w 2) (w 3) (w 4) (w 5) (colOf h)
  | .frrect => .frrect (w 1) (w 2) (w 3) (w 4) (w 5) (colOf h)
  | .tri => .tri (w 1) (w 2) (w 3) (w 4) (w 5) (w 6) (colOf h)
  | .ftri => .ftri (w 1) (w 2) (w 3) (w 4) (w 5) (w 6) (colOf h)
  | .char => .char (w 1) (w 2) (lowByte (w 3)) (highByte (w 3)) (auxOf h) (colOf h)
  | .char1 => .char1 (w 1) (w 2) (w 3) (auxOf h) (colOf h)
  | .hitspan => .hitspan (w 1) (w 2)
  | .hitglyph => .hitglyph (w 1) (w 2)

/-- Why a command is illegal (R99). -/
inductive Illegal where
  /-- (a): the header word matches no row of R96; found on the header, before any operand is read. -/
  | noSuchHeader
  /-- (b): a must-be-zero byte of `CHAR1`'s W3 or `HITGLYPH`'s W2 is not zero; found when that word arrives. -/
  | operandNotZero
deriving DecidableEq, Repr

/-- What the words at the front of the command channel are: a whole command, an illegal one, or not yet all the
words of one (R98, R99, R44). The words after it come with it. -/
inductive Decoded where
  | command (i : Instr) (rest : List Word)
  | illegal (why : Illegal) (rest : List Word)
  | incomplete
deriving DecidableEq, Repr

/-- The decoder: one header word, then the N operand words of its row (R91, R95, R98, R99). -/
def decode : List Word → Decoded
  | [] => .incomplete
  | h :: ws =>
    match Opcode.ofHeader h with
    | none => .illegal .noSuchHeader ws
    | some o =>
      if ws.length < o.operands then .incomplete
      else
        let i := o.instr h fun k => ws.getD (k - 1) 0
        if i.wellFormed then .command i (ws.drop o.operands)
        else .illegal .operandNotZero (ws.drop o.operands)

/-- A header word `OP[15:8] AUX[7:4] COL[3:0]` (R92). -/
def header (o : Opcode) (aux col : Nibble) : Word := o.code ++ aux ++ col

/-- The words of a command (R91 to R96); every field that the command does not use is zero. -/
def encode : Instr → List Word
  | .setrate rate => [header .setrate 0 0, rate]
  | .poll => [header .poll 0 0]
  | .load => [header .load 0 0]
  | .everyn n => [header .everyn 0 0, n]
  | .faults => [header .faults 0 0]
  | .needs => [header .needs 0 0]
  | .clear col => [header .clear 0 col]
  | .pixel x y col => [header .pixel 0 col, x, y]
  | .flush => [header .flush 0 0]
  | .vline x y h col => [header .vline 0 col, x, y, h]
  | .hline x y w col => [header .hline 0 col, x, y, w]
  | .line x0 y0 x1 y1 col => [header .line 0 col, x0, y0, x1, y1]
  | .rect x y w h col => [header .rect 0 col, x, y, w, h]
  | .frect x y w h col => [header .frect 0 col, x, y, w, h]
  | .circle x0 y0 r col => [header .circle 0 col, x0, y0, r]
  | .circleq x0 y0 r corners col => [header .circleq corners col, x0, y0, r]
  | .fcircle x0 y0 r col => [header .fcircle 0 col, x0, y0, r]
  | .fcircleq x0 y0 r delta sides col => [header .fcircleq sides col, x0, y0, r, delta]
  | .rrect x y w h r col => [header .rrect 0 col, x, y, w, h, r]
  | .frrect x y w h r col => [header .frrect 0 col, x, y, w, h, r]
  | .tri x0 y0 x1 y1 x2 y2 col => [header .tri 0 col, x0, y0, x1, y1, x2, y2]
  | .ftri x0 y0 x1 y1 x2 y2 col => [header .ftri 0 col, x0, y0, x1, y1, x2, y2]
  | .char x y ch size bg fg => [header .char bg fg, x, y, size ++ ch]
  | .char1 x y w3 bg fg => [header .char1 bg fg, x, y, w3]
  | .hitspan y h => [header .hitspan 0 0, y, h]
  | .hitglyph y w2 => [header .hitglyph 0 0, y, w2]

/-- The seven words (header and at most six operands, R91) of a command whose bits are `w`, bit 0 being the least
significant bit of the first word and bits 31:16 the second word, and so on; bits from `nbits` up are 0. -/
def tableWords (nbits w : Nat) : List Word :=
  (List.range 7).map fun k => BitVec.ofNat 16 ((w % 2 ^ nbits) >>> (16 * k))

/-- The first command of `tableWords`: the header and the operand words that its `OP` asks for, or the header alone
when it is illegal (R91, R98). -/
def tableCommand (nbits w : Nat) : List Word :=
  let ws := tableWords nbits w
  match Opcode.ofHeader (ws.headD 0) with
  | some o => ws.take (1 + o.operands)
  | none => ws.take 1

/-- The command the decoder reads from an opcode-table word. -/
def decodeTableWord (nbits w : Nat) : Option Instr :=
  match decode (tableWords nbits w) with
  | .command i _ => some i
  | .illegal _ _ => none
  | .incomplete => none

end Sys2Proof
end

