-- ==== Sys2Proof/Machine/Operands.lean ====
section
/-! DEFINITION. How an operand is read: the kinds of `30_encoding.md` R93 and the colour of `00_scope.md` R14. -/

namespace Sys2Proof.Machine

/-- A signed operand `s(Wk) = sext_16(Wk)`, -32768 .. 32767 (R93). -/
def signed (w : Word) : Int := w.toInt

/-- An unsigned operand `u(Wk) = zext_16(Wk)`, 0 .. 65535 (R93). -/
def unsigned (w : Word) : Nat := w.toNat

/-- A byte operand (`ch`, `size`), unsigned, 0 .. 255 (R93). -/
def byteOperand (b : Byte) : Nat := b.toNat

/-- `norm(f)`: a nonzero colour field is foreground, 1; zero is background, 0 (R14). -/
def norm (f : Nibble) : Bool := f != 0

/-- A bit of a mask carried in `AUX` (`corners`, R183; `sides`, R184). -/
def maskBit (m : Nibble) (k : Nat) : Bool := m.getLsbD k

end Sys2Proof.Machine
end

