-- ==== Sys2Proof/Machine/Ops.lean ====
section
/-! DEFINITION. The operations every meaning is made of: the band buffer as memory (`20_memory.md`), register writes
modulo their width (`00_scope.md` R10), raising a fault (`60_exceptions.md` R232), responding (`30_encoding.md` R101),
painting (`41_band.md` R146) and the pixel micro-operation (`41_band.md` R143). -/

namespace Sys2Proof.Machine

/-- The written value of column `a`, if it is listed. -/
def Memory.find : Memory → Nat → Option Byte
  | [], _ => none
  | (k, b) :: m, a => if k = a then some b else Memory.find m a

/-- Write column `a`, keeping the columns in rising order. -/
def Memory.write : Memory → Nat → Byte → Memory
  | [], a, v => [(a, v)]
  | (k, b) :: m, a, v =>
    if a < k then (a, v) :: (k, b) :: m
    else if a = k then (a, v) :: m
    else (k, b) :: Memory.write m a v

/-- Every column of an `n`-column buffer written with `v` (R142). -/
def Memory.filled (n : Nat) (v : Byte) : Memory := (List.range n).map fun x => (x, v)

/-- Strictly rising columns, all at least `lo` and below `n`. -/
def Memory.risingFrom (n : Nat) : Nat → Memory → Bool
  | _, [] => true
  | lo, (k, _) :: m => lo ≤ k && k < n && Memory.risingFrom n (k + 1) m

/-- The canonical form of an `n`-column buffer: columns strictly rising, each below `n` (R70). An unlisted column has
no written value, so no entry can equal what it reads as (log 3). -/
def Memory.wf (n : Nat) (m : Memory) : Bool := Memory.risingFrom n 0 m

/-- `MemRead(x, 1)`: the byte of column `x` (R13). A column that no command has written since the last reset holds the
free value of R60. -/
def State.column (s : State) (x : Nat) : Byte :=
  match Memory.find s.buf x with
  | some b => b
  | none => Config.bufReset s.resets x

/-- `MemWrite(x, 1, v)` (R13). Every caller has checked `x < WIDTH` (R70). -/
def State.setColumn (s : State) (x : Nat) (v : Byte) : State :=
  { s with buf := Memory.write s.buf x v }

/-- The WIDTH column bytes, `BUF[0]` first (R65). -/
def State.bytes (s : State) : List Byte := (List.range s.build.width).map s.column

/-- The glyph ROM: `GLYPH[c][i]` (R62). A byte that the build does not name is a free value (log 2). -/
def State.glyphByte (s : State) (c i : Nat) : Byte :=
  match Memory.find s.build.glyph (5 * c + i) with
  | some b => b
  | none => Config.glyphByte c i

/-- `raise Fault(F)`: sets the sticky bit and nothing else. This is the whole of taking an exception: no control transfer,
no mode change, nothing saved (R232, R236); there is no return from one (R237). -/
def State.raise (s : State) (f : FaultBit) : State :=
  { s with fault := s.fault ||| f.bit }

/-- What the decoder does on an illegal command: `raise Fault(ILLEGAL)`, `locked <- 1` (R99). -/
def State.lock (s : State) : State :=
  { s.raise .illegal with locked := true }

/-- `respond(v)`: one RESPW-bit word on the response channel (R13, R101). -/
def State.respond (s : State) (v : Nat) : State :=
  { s with responses := s.responses ++ [v % 2 ^ s.build.respw] }

/-- `paint(cursor, BUF)`: one paint event on the paint channel (R146, R246). -/
def State.paint (s : State) : State :=
  { s with paints := s.paints ++ [{ cursor := s.cursor, bytes := s.bytes }] }

/-- `cursor <- v`, a register of CURW bits (R24, R10). -/
def State.setCursor (s : State) (v : Nat) : State :=
  { s with cursor := v % 2 ^ s.build.curw }

/-- A value as a register of TICKW bits holds it (R10). -/
def State.tickValue (s : State) (v : Nat) : Nat := v % 2 ^ s.build.tickw

/-- `band(y)`: the first row of the band that contains row `y` (R12). -/
def band (y : Int) : Int := 8 * (y / 8)

/-- Set (colour 1) or clear (colour 0) one bit of a column byte, the other seven preserved (R61, R143). -/
def setBit (v : Byte) (b : Nat) (c : Bool) : Byte :=
  if c then v ||| (1#8 <<< b) else v &&& ~~~(1#8 <<< b)

/-- (x, y) is in the canvas (R15). -/
def onCanvas (p : Params) (x y : Int) : Bool :=
  0 ≤ x && x < p.width && 0 ≤ y && y < p.height

/-- A pixel position, in mathematical integers (R10, R15). -/
abbrev Point := Int × Int

/-- `DrawPixel(x, y, c)` (R143), its tests in the rule's order. -/
def State.drawPixel (s : State) (p : Point) (c : Bool) : State :=
  if s.build.boundsCheck && !onCanvas s.build p.1 p.2 then s
  else if band p.2 ≠ s.cursor then s
  else if p.1 < 0 ∨ (s.build.width : Int) ≤ p.1 then s.raise .oob
  else s.setColumn p.1.toNat (setBit (s.column p.1.toNat) (p.2 % 8).toNat c)

/-- The `DrawPixel` calls of a command, one after the other, each with its colour (R160). -/
def State.drawAll (s : State) (ps : List (Point × Bool)) : State :=
  ps.foldl (fun s p => s.drawPixel p.1 p.2) s

/-- The `DrawPixel` calls of a command that draws in one colour (R160). -/
def State.draw (s : State) (c : Bool) (ps : List Point) : State :=
  s.drawAll (ps.map fun p => (p, c))

end Sys2Proof.Machine
end

