-- ==== Sys2Proof/Machine/Band.lean ====
section
/-! DEFINITION. The band lifecycle and pixel commands (`41_band.md`): NEEDS, CLEAR, PIXEL, FLUSH. -/

namespace Sys2Proof.Machine

/-- `NEEDS` (R141). -/
def execNeeds (s : State) : Host.Outcome State Fault Refusal :=
  .next (s.respond (boolWord (s.cursor < s.build.height)))

/-- `CLEAR c` (R142): the buffer is fully overwritten, whatever the cursor. -/
def execClear (col : Nibble) (s : State) : Host.Outcome State Fault Refusal :=
  .next { s with buf := Memory.filled s.build.width (if norm col then 0xFF#8 else 0x00#8) }

/-- `PIXEL x, y, c` (R144). -/
def execPixel (x y : Word) (col : Nibble) (s : State) : Host.Outcome State Fault Refusal :=
  .next (s.drawPixel (signed x, signed y) (norm col))

/-- `FLUSH` would hand a band to the transport: the case of R146, not that of R147. -/
def State.bandLeft (s : State) : Bool := s.cursor < s.build.height

/-- `FLUSH`: one paint event, then the cursor advances by 8 (R146); with no band left it is refused (R147). The engine
executes it when the transport takes the event (R246; log 8). -/
def execFlush (s : State) : Host.Outcome State Fault Refusal :=
  if s.bandLeft then .next (s.paint.setCursor (s.cursor + 8))
  else .next (s.raise .flushx)

end Sys2Proof.Machine
end

