-- ==== Sys2Proof/Machine/Lines.lean ====
section
/-! DEFINITION. Straight lines and rectangles (`42_lines_rects.md`): VLINE, HLINE, LINE, RECT, FRECT. A sub-procedure of
the spec is the list of the pixels it attempts, in the order of its pseudocode (R160). -/

namespace Sys2Proof.Machine

/-- `VLine(x, y, h)` (R161). -/
def vlinePoints (x y h : Int) : List Point :=
  (List.range h.toNat).map fun (k : Nat) => (x, y + (k : Int))

/-- `HLine(x, y, w)` (R162). -/
def hlinePoints (x y w : Int) : List Point :=
  (List.range w.toNat).map fun (k : Nat) => (x + (k : Int), y)

/-- The loop of `Line` (R163): `n` iterations from major coordinate `x`, minor `y`, accumulator `err`. -/
def lineLoop (steep : Bool) (dx dy ystep : Int) : Nat → Int → Int → Int → List Point
  | 0, _, _, _ => []
  | n + 1, x, y, err =>
    (if steep then (y, x) else (x, y)) ::
      (if err - dy < 0 then lineLoop steep dx dy ystep n (x + 1) (y + ystep) (err - dy + dx)
       else lineLoop steep dx dy ystep n (x + 1) y (err - dy))

/-- `Line` in its working frame: `x0 <= x1` on the major axis (R163). -/
def lineFrame (steep : Bool) (x0 y0 x1 y1 : Int) : List Point :=
  lineLoop steep (x1 - x0) ((y1 - y0).natAbs : Int) (if y0 < y1 then 1 else -1)
    (x1 - x0 + 1).toNat x0 y0 ((x1 - x0) / 2)

/-- The endpoint reordering of `Line`: x increasing (R163). -/
def lineOrdered (steep : Bool) (x0 y0 x1 y1 : Int) : List Point :=
  if x0 > x1 then lineFrame steep x1 y1 x0 y0 else lineFrame steep x0 y0 x1 y1

/-- `Line(x0, y0, x1, y1)` (R163): the axes swap when the line is steep. -/
def linePoints (x0 y0 x1 y1 : Int) : List Point :=
  if (y1 - y0).natAbs > (x1 - x0).natAbs then lineOrdered true y0 x0 y1 x1
  else lineOrdered false x0 y0 x1 y1

/-- The outline of `RECT` (R165). -/
def rectPoints (x y w h : Int) : List Point :=
  if w ≤ 0 ∨ h ≤ 0 then []
  else hlinePoints x y w ++ hlinePoints x (y + h - 1) w ++ vlinePoints x y h ++ vlinePoints (x + w - 1) y h

/-- `FRect(x, y, w, h)` (R166): a vertical line in each column. -/
def frectPoints (x y w h : Int) : List Point :=
  (List.range w.toNat).flatMap fun (k : Nat) => vlinePoints (x + (k : Int)) y h

/-- `VLINE x, y, h, c` (R161). -/
def execVline (x y h : Word) (col : Nibble) (s : State) : Host.Outcome State Fault Refusal :=
  .next (s.draw (norm col) (vlinePoints (signed x) (signed y) (signed h)))

/-- `HLINE x, y, w, c` (R162). -/
def execHline (x y w : Word) (col : Nibble) (s : State) : Host.Outcome State Fault Refusal :=
  .next (s.draw (norm col) (hlinePoints (signed x) (signed y) (signed w)))

/-- `LINE x0, y0, x1, y1, c` (R163). -/
def execLine (x0 y0 x1 y1 : Word) (col : Nibble) (s : State) : Host.Outcome State Fault Refusal :=
  .next (s.draw (norm col) (linePoints (signed x0) (signed y0) (signed x1) (signed y1)))

/-- `RECT x, y, w, h, c` (R165). -/
def execRect (x y w h : Word) (col : Nibble) (s : State) : Host.Outcome State Fault Refusal :=
  .next (s.draw (norm col) (rectPoints (signed x) (signed y) (signed w) (signed h)))

/-- `FRECT x, y, w, h, c` (R166). -/
def execFrect (x y w h : Word) (col : Nibble) (s : State) : Host.Outcome State Fault Refusal :=
  .next (s.draw (norm col) (frectPoints (signed x) (signed y) (signed w) (signed h)))

end Sys2Proof.Machine
end

