-- ==== Sys2Proof/Machine/Circles.lean ====
section
/-! DEFINITION. Circles and rounded rectangles (`43_circles_roundrects.md`): CIRCLE, CIRCLEQ, FCIRCLE, FCIRCLEQ, RRECT,
FRRECT. -/

namespace Sys2Proof.Machine

/-- The loop of `Octant` (R181); `n` bounds the iterations. -/
def octantLoop : Nat → (f ddx ddy i j : Int) → List Point
  | 0, _, _, _, _, _ => []
  | n + 1, f, ddx, ddy, i, j =>
    if i < j then
      if f ≥ 0 then
        (i + 1, j - 1) :: octantLoop n (f + (ddy + 2) + (ddx + 2)) (ddx + 2) (ddy + 2) (i + 1) (j - 1)
      else
        (i + 1, j) :: octantLoop n (f + (ddx + 2)) (ddx + 2) ddy (i + 1) j
    else []

/-- `Octant(r)`: the offset pairs (i, j) of the midpoint iteration (R181). i counts up from 0 and j never grows, so the loop
test fails after at most r iterations. -/
def octant (r : Int) : List Point := octantLoop r.toNat (1 - r) 1 (-2 * r) 0 r

/-- The pixels of `CIRCLE` (R182). -/
def circlePoints (x0 y0 r : Int) : List Point :=
  if r < 0 then []
  else [(x0, y0 + r), (x0, y0 - r), (x0 + r, y0), (x0 - r, y0)] ++
    (octant r).flatMap fun (i, j) =>
      [(x0 + i, y0 + j), (x0 - i, y0 + j), (x0 + i, y0 - j), (x0 - i, y0 - j),
       (x0 + j, y0 + i), (x0 - j, y0 + i), (x0 + j, y0 - i), (x0 - j, y0 - i)]

/-- `CircleQ(x0, y0, r, corners)` (R183): mask bits 0 to 3 are upper left, upper right, lower right, lower left. -/
def circleqPoints (x0 y0 r : Int) (corners : Nibble) : List Point :=
  if r < 0 then []
  else (octant r).flatMap fun (i, j) =>
    (if maskBit corners 0 then [(x0 - j, y0 - i), (x0 - i, y0 - j)] else []) ++
    (if maskBit corners 1 then [(x0 + i, y0 - j), (x0 + j, y0 - i)] else []) ++
    (if maskBit corners 2 then [(x0 + i, y0 + j), (x0 + j, y0 + i)] else []) ++
    (if maskBit corners 3 then [(x0 - j, y0 + i), (x0 - i, y0 + j)] else [])

/-- `FCircleQ(x0, y0, r, sides, delta)` (R184): side bit 0 is the right half, bit 1 the left. -/
def fcircleqPoints (x0 y0 r : Int) (sides : Nibble) (delta : Int) : List Point :=
  if r < 0 then []
  else (octant r).flatMap fun (i, j) =>
    (if maskBit sides 0 then
      vlinePoints (x0 + i) (y0 - j) (2 * j + 1 + delta) ++ vlinePoints (x0 + j) (y0 - i) (2 * i + 1 + delta)
     else []) ++
    (if maskBit sides 1 then
      vlinePoints (x0 - i) (y0 - j) (2 * j + 1 + delta) ++ vlinePoints (x0 - j) (y0 - i) (2 * i + 1 + delta)
     else [])

/-- The pixels of `FCIRCLE` (R185). -/
def fcirclePoints (x0 y0 r : Int) : List Point :=
  if r < 0 then []
  else vlinePoints x0 (y0 - r) (2 * r + 1) ++ fcircleqPoints x0 y0 r 3 0

/-- `RClamp(w, h, r)` (R186). -/
def rclamp (w h r : Int) : Int := min (max r 0) (min w h / 2)

/-- The pixels of `RRECT`, for a clamped radius (R187). -/
def rrectClamped (x y w h r : Int) : List Point :=
  hlinePoints (x + r) y (w - 2 * r) ++
  hlinePoints (x + r) (y + h - 1) (w - 2 * r) ++
  vlinePoints x (y + r) (h - 2 * r) ++
  vlinePoints (x + w - 1) (y + r) (h - 2 * r) ++
  circleqPoints (x + r) (y + r) r 1 ++
  circleqPoints (x + w - r - 1) (y + r) r 2 ++
  circleqPoints (x + w - r - 1) (y + h - r - 1) r 4 ++
  circleqPoints (x + r) (y + h - r - 1) r 8

/-- The pixels of `RRECT` (R187). -/
def rrectPoints (x y w h r : Int) : List Point :=
  if w ≤ 0 ∨ h ≤ 0 then [] else rrectClamped x y w h (rclamp w h r)

/-- The pixels of `FRRECT`, for a clamped radius (R188). -/
def frrectClamped (x y w h r : Int) : List Point :=
  frectPoints (x + r) y (w - 2 * r) h ++
  fcircleqPoints (x + w - r - 1) (y + r) r 1 (h - 2 * r - 1) ++
  fcircleqPoints (x + r) (y + r) r 2 (h - 2 * r - 1)

/-- The pixels of `FRRECT` (R188). -/
def frrectPoints (x y w h r : Int) : List Point :=
  if w ≤ 0 ∨ h ≤ 0 then [] else frrectClamped x y w h (rclamp w h r)

/-- `CIRCLE x0, y0, r, c` (R182). -/
def execCircle (x0 y0 r : Word) (col : Nibble) (s : State) : Host.Outcome State Fault Refusal :=
  .next (s.draw (norm col) (circlePoints (signed x0) (signed y0) (signed r)))

/-- `CIRCLEQ x0, y0, r, corners, c` (R183). -/
def execCircleq (x0 y0 r : Word) (corners col : Nibble) (s : State) : Host.Outcome State Fault Refusal :=
  .next (s.draw (norm col) (circleqPoints (signed x0) (signed y0) (signed r) corners))

/-- `FCIRCLE x0, y0, r, c` (R185). -/
def execFcircle (x0 y0 r : Word) (col : Nibble) (s : State) : Host.Outcome State Fault Refusal :=
  .next (s.draw (norm col) (fcirclePoints (signed x0) (signed y0) (signed r)))

/-- `FCIRCLEQ x0, y0, r, delta, sides, c` (R184). A term whose upper `AUX` bits are not zero stands for an illegal header
(R95, R99; log 14). -/
def execFcircleq (x0 y0 r delta : Word) (sides col : Nibble) (s : State) : Host.Outcome State Fault Refusal :=
  if (Instr.fcircleq x0 y0 r delta sides col).wellFormed then
    .next (s.draw (norm col) (fcircleqPoints (signed x0) (signed y0) (signed r) sides (signed delta)))
  else .next s.lock

/-- `RRECT x, y, w, h, r, c` (R187). -/
def execRrect (x y w h r : Word) (col : Nibble) (s : State) : Host.Outcome State Fault Refusal :=
  .next (s.draw (norm col) (rrectPoints (signed x) (signed y) (signed w) (signed h) (signed r)))

/-- `FRRECT x, y, w, h, r, c` (R188). -/
def execFrrect (x y w h r : Word) (col : Nibble) (s : State) : Host.Outcome State Fault Refusal :=
  .next (s.draw (norm col) (frrectPoints (signed x) (signed y) (signed w) (signed h) (signed r)))

end Sys2Proof.Machine
end

