-- ==== Sys2Proof/Machine/Glyphs.lean ====
section
/-! DEFINITION. Glyphs (`45_glyphs.md`): CHAR, CHAR1. -/

namespace Sys2Proof.Machine

/-- The column `i` of the six-column cell of glyph `c`: the sixth is blank (R211). -/
def State.cellColumn (s : State) (c i : Nat) : Byte := if i = 5 then 0x00#8 else s.glyphByte c i

/-- The `size` × `size` block of logical pixel (i, j) (R211). -/
def blockPoints (x y : Int) (size i j : Nat) : List Point :=
  (List.range size).flatMap fun (a : Nat) => (List.range size).map fun (b : Nat) =>
    (x + (i : Int) * (size : Int) + (a : Int), y + (j : Int) * (size : Int) + (b : Int))

/-- What one logical pixel of a glyph attempts: set bits always in `fg`, clear bits in `bg`, skipped when the colours are
equal (R211, C7). -/
def glyphPixel (x y : Int) (size : Nat) (bg fg : Bool) (line : Byte) (i j : Nat) : List (Point × Bool) :=
  if line.getLsbD j then (blockPoints x y size i j).map fun p => (p, fg)
  else if fg != bg then (blockPoints x y size i j).map fun p => (p, bg)
  else []

/-- The pixels of `CHAR`, each with its colour (R211). -/
def State.charPoints (s : State) (x y : Int) (c size : Nat) (bg fg : Bool) : List (Point × Bool) :=
  (List.range 6).flatMap fun (i : Nat) => (List.range 8).flatMap fun (j : Nat) =>
    glyphPixel x y size bg fg (s.cellColumn c i) i j

/-- The pixels of `CHAR1`, each with its colour (R213). -/
def State.char1Points (s : State) (x y : Int) (c : Nat) (bg fg : Bool) : List (Point × Bool) :=
  (List.range 6).flatMap fun (i : Nat) => (List.range 8).flatMap fun (j : Nat) =>
    if (s.cellColumn c i).getLsbD j then [((x + (i : Int), y + (j : Int)), fg)]
    else if fg != bg then [((x + (i : Int), y + (j : Int)), bg)]
    else []

/-- `CHAR x, y, ch, size, bg, fg` (R211). -/
def execChar (x y : Word) (ch size : Byte) (bg fg : Nibble) (s : State) : Host.Outcome State Fault Refusal :=
  .next (s.drawAll (s.charPoints (signed x) (signed y) (byteOperand ch) (byteOperand size) (norm bg) (norm fg)))

/-- `CHAR1 x, y, ch, bg, fg` (R213), `ch = W3[7:0]`. A nonzero high byte of W3 is an illegal command (R99; log 14). -/
def execChar1 (x y w3 : Word) (bg fg : Nibble) (s : State) : Host.Outcome State Fault Refusal :=
  if (Instr.char1 x y w3 bg fg).wellFormed then
    .next (s.drawAll (s.char1Points (signed x) (signed y) (byteOperand (lowByte w3)) (norm bg) (norm fg)))
  else .next s.lock

end Sys2Proof.Machine
end

