-- ==== Sys2Proof/Machine/Pacer.lean ====
section
/-! DEFINITION. The frame-pacer commands (`40_pacer.md`): SETRATE, POLL, LOAD, EVERYN, FAULTS. -/

namespace Sys2Proof.Machine

/-- `SETRATE rate` (R121). -/
def execSetrate (rate : Word) (s : State) : Host.Outcome State Fault Refusal :=
  if unsigned rate = 0 then .next (s.raise .divzero)
  else .next { s with
    frameRate := rate
    framePeriod := BitVec.ofNat 16 (max 1 (1000 / unsigned rate)) }

/-- The post-render bookkeeping of the first `POLL` after a grant (R123). -/
def State.closeFrame (s : State) : State :=
  if s.pendingFlush then { s with
    lastFrameDuration := tickDiff s.build.tickw s.tickCount s.lastFrameStart
    frameCounter := s.frameCounter + 1
    pendingFlush := false }
  else s

/-- `slack = (nextFrameStart - now) mod 2^TICKW` (R123). -/
def State.slack (s : State) : Nat := tickDiff s.build.tickw s.nextFrameStart s.tickCount

/-- The grant of a frame: the deadline is computed from now (R123, R129). -/
def State.grant (s : State) : State :=
  { s.setCursor 0 with
    nextFrameStart := s.tickValue (s.tickCount + s.framePeriod.toNat)
    lastFrameStart := s.tickValue s.tickCount
    pendingFlush := true }

/-- `IdleWait()`: the block sleeps until the next tick event, which then responds 0 (R124, R240). -/
def State.idleWait (s : State) : State := { s with sleeping := true }

/-- `POLL` (R123). Early with more than one tick left, it suspends; the response comes with the next tick event. -/
def execPoll (s : State) : Host.Outcome State Fault Refusal :=
  let s' := s.closeFrame
  if early s'.build.tickw s'.slack then
    if 1 < s'.slack then .next s'.idleWait else .next (s'.respond 0)
  else .next (s'.grant.respond 1)

/-- `LOAD` (R126): never clamped, exact. -/
def execLoad (s : State) : Host.Outcome State Fault Refusal :=
  if s.framePeriod = 0 then .next ((s.raise .divzero).respond 0)
  else .next (s.respond (s.lastFrameDuration * 100 / s.framePeriod.toNat))

/-- `EVERYN n` (R127). -/
def execEveryn (n : Word) (s : State) : Host.Outcome State Fault Refusal :=
  if unsigned n = 0 then .next ((s.raise .divzero).respond 0)
  else .next (s.respond (boolWord (s.frameCounter.toNat % unsigned n == 0)))

/-- `FAULTS` (R128): reads `FAULT` and clears nothing. -/
def execFaults (s : State) : Host.Outcome State Fault Refusal :=
  .next (s.respond s.fault.toNat)

end Sys2Proof.Machine
end

