-- ==== Sys2Proof/Machine/Predicates.lean ====
section
/-! DEFINITION. The intersection predicates (`46_predicates.md`): HITSPAN, HITGLYPH. Pure but for the response (R226). -/

namespace Sys2Proof.Machine

/-- `HITSPAN y, h` (R221). -/
def execHitspan (y h : Word) (s : State) : Host.Outcome State Fault Refusal :=
  .next (s.respond (boolWord (rowsOverlap s.cursor (signed y) (signed h))))

/-- `HITGLYPH y, size` (R222), `size = W2[7:0]`. A nonzero high byte of W2 is an illegal command (R99; log 14). -/
def execHitglyph (y w2 : Word) (s : State) : Host.Outcome State Fault Refusal :=
  if (Instr.hitglyph y w2).wellFormed then
    .next (s.respond (boolWord (rowsOverlap s.cursor (signed y) (8 * byteOperand (lowByte w2)))))
  else .next s.lock

end Sys2Proof.Machine
end

