-- ==== Sys2Proof/Machine/Triangles.lean ====
section
/-! DEFINITION. Triangles (`44_triangles.md`): TRI, FTRI. -/

namespace Sys2Proof.Machine

/-- The pixels of `TRI`: the three sides (R201). -/
def triPoints (x0 y0 x1 y1 x2 y2 : Int) : List Point :=
  linePoints x0 y0 x1 y1 ++ linePoints x1 y1 x2 y2 ++ linePoints x2 y2 x0 y0

/-- One compare-and-swap of the sort: the vertex with the smaller y first (R202 step 1). -/
def sortPair (p q : Point) : Point × Point := if p.2 > q.2 then (q, p) else (p, q)

/-- The three compare-and-swap steps (R202 step 1). -/
def sortVertices (p q r : Point) : Point × Point × Point :=
  let a := sortPair p q
  let b := sortPair a.2 r
  let c := sortPair a.1 b.1
  (c.1, c.2, b.2)

/-- One span of the fill: from the lesser crossing to the greater, both included (R202 steps 5 and 6). -/
def spanPoints (a b y : Int) : List Point :=
  if a > b then hlinePoints b y (a - b + 1) else hlinePoints a y (b - a + 1)

/-- A sweep of `n` scanlines down from row `y`: edge A starts at column `xa`, has height `dya`, and its running numerator
`sa` grows by `dxa`; edge B likewise (R202 steps 5 and 6). `tdiv` is the quotient truncated toward zero (R12). -/
def sweep (xa dxa dya xb dxb dyb : Int) : Nat → (y sa sb : Int) → List Point
  | 0, _, _, _ => []
  | n + 1, y, sa, sb =>
    spanPoints (xa + Int.tdiv sa dya) (xb + Int.tdiv sb dyb) y ++
      sweep xa dxa dya xb dxb dyb n (y + 1) (sa + dxa) (sb + dxb)

/-- Which half owns the shared scanline: the last row of the top half (R202 step 4). -/
def topLast (y1 y2 : Int) : Int := if y1 = y2 then y1 else y1 - 1

/-- The fill of three vertices sorted by y (R202 steps 2 to 6). -/
def ftriSorted (p q r : Point) : List Point :=
  let (x0, y0) := p
  let (x1, y1) := q
  let (x2, y2) := r
  if y0 = y2 then
    hlinePoints (min x0 (min x1 x2)) y0 (max x0 (max x1 x2) - min x0 (min x1 x2) + 1)
  else
    let last := topLast y1 y2
    sweep x0 (x1 - x0) (y1 - y0) x0 (x2 - x0) (y2 - y0) (last - y0 + 1).toNat y0 0 0 ++
      sweep x1 (x2 - x1) (y2 - y1) x0 (x2 - x0) (y2 - y0) (y2 - last).toNat (last + 1)
        ((x2 - x1) * (last + 1 - y1)) ((x2 - x0) * (last + 1 - y0))

/-- The pixels of `FTRI` (R202). -/
def ftriPoints (x0 y0 x1 y1 x2 y2 : Int) : List Point :=
  let v := sortVertices (x0, y0) (x1, y1) (x2, y2)
  ftriSorted v.1 v.2.1 v.2.2

/-- `TRI x0, y0, x1, y1, x2, y2, c` (R201). -/
def execTri (x0 y0 x1 y1 x2 y2 : Word) (col : Nibble) (s : State) : Host.Outcome State Fault Refusal :=
  .next (s.draw (norm col)
    (triPoints (signed x0) (signed y0) (signed x1) (signed y1) (signed x2) (signed y2)))

/-- `FTRI x0, y0, x1, y1, x2, y2, c` (R202). -/
def execFtri (x0 y0 x1 y1 x2 y2 : Word) (col : Nibble) (s : State) : Host.Outcome State Fault Refusal :=
  .next (s.draw (norm col)
    (ftriPoints (signed x0) (signed y0) (signed x1) (signed y1) (signed x2) (signed y2)))

end Sys2Proof.Machine
end

