-- ==== Sys2Proof/Machine/Dispatch.lean ====
section
/-! DEFINITION. The meaning of every command, by one definition of its own. -/

namespace Sys2Proof.Machine

def exec (i : Instr) (s : State) : Host.Outcome State Fault Refusal :=
  match i with
  | .setrate rate => Sys2Proof.Machine.execSetrate rate s
  | .poll => Sys2Proof.Machine.execPoll s
  | .load => Sys2Proof.Machine.execLoad s
  | .everyn n => Sys2Proof.Machine.execEveryn n s
  | .faults => Sys2Proof.Machine.execFaults s
  | .needs => Sys2Proof.Machine.execNeeds s
  | .clear col => Sys2Proof.Machine.execClear col s
  | .pixel x y col => Sys2Proof.Machine.execPixel x y col s
  | .flush => Sys2Proof.Machine.execFlush s
  | .vline x y h col => Sys2Proof.Machine.execVline x y h col s
  | .hline x y w col => Sys2Proof.Machine.execHline x y w col s
  | .line x0 y0 x1 y1 col => Sys2Proof.Machine.execLine x0 y0 x1 y1 col s
  | .rect x y w h col => Sys2Proof.Machine.execRect x y w h col s
  | .frect x y w h col => Sys2Proof.Machine.execFrect x y w h col s
  | .circle x0 y0 r col => Sys2Proof.Machine.execCircle x0 y0 r col s
  | .circleq x0 y0 r corners col => Sys2Proof.Machine.execCircleq x0 y0 r corners col s
  | .fcircle x0 y0 r col => Sys2Proof.Machine.execFcircle x0 y0 r col s
  | .fcircleq x0 y0 r delta sides col => Sys2Proof.Machine.execFcircleq x0 y0 r delta sides col s
  | .rrect x y w h r col => Sys2Proof.Machine.execRrect x y w h r col s
  | .frrect x y w h r col => Sys2Proof.Machine.execFrrect x y w h r col s
  | .tri x0 y0 x1 y1 x2 y2 col => Sys2Proof.Machine.execTri x0 y0 x1 y1 x2 y2 col s
  | .ftri x0 y0 x1 y1 x2 y2 col => Sys2Proof.Machine.execFtri x0 y0 x1 y1 x2 y2 col s
  | .char x y ch size bg fg => Sys2Proof.Machine.execChar x y ch size bg fg s
  | .char1 x y w3 bg fg => Sys2Proof.Machine.execChar1 x y w3 bg fg s
  | .hitspan y h => Sys2Proof.Machine.execHitspan y h s
  | .hitglyph y w2 => Sys2Proof.Machine.execHitglyph y w2 s

end Sys2Proof.Machine
end

