-- ==== Sys2Proof/Machine/Engine.lean ====
section
/-! DEFINITION. The moves of the four agents and of the reset input (`00_scope.md` R18): how the band engine accepts and
decodes command words (`30_encoding.md` R90, R91, R98, R99), the tick event (`60_exceptions.md` R240), and reset
(`70_reset_and_hazards.md` R260). -/

namespace Sys2Proof.Machine

/-- The words that the engine has before it: those of the command it is in the middle of, then the command channel
(R44, R90). -/
def State.words (s : State) : List Word := s.held ++ s.channel

/-- The command waits for the transport: a `FLUSH` with a band to hand over completes only when the transport takes
it (R146, R246; log 8). -/
def State.waits (s : State) (i : Instr) : Bool :=
  i == .flush && s.bandLeft && !s.transportReady

/-- While `locked = 1` the engine accepts and discards every command word (R37, R99): one word a turn (log 15). -/
def State.discardWord (s : State) : State := { s with channel := s.channel.drop 1 }

/-- The words of `s` taken up to and including a command, `rest` still in the channel. -/
def State.accepted (s : State) (rest : List Word) : State := { s with held := [], channel := rest }

/-- A turn of the band engine. Locked, it discards a word; sleeping, it accepts none (R38, R90). Otherwise it accepts the
words of one command and executes it all at once (R91), locks on an illegal one (R99), or keeps the words it has (R44). -/
def engineTurn (s : State) : Host.Outcome State Fault Refusal :=
  if s.locked then .next s.discardWord
  else if s.sleeping then .next s
  else
    match decode s.words with
    | .command i rest =>
      if s.waits i then .next { s with held := encode i, channel := rest }
      else exec i (s.accepted rest)
    | .illegal _ rest => .next (s.accepted rest).lock
    | .incomplete => .next { s with held := s.words, channel := [] }

/-- A tick event: the counter advances, and a suspended `POLL` responds 0 (R240, R124). -/
def State.tick (s : State) : State :=
  let s' := { s with tickCount := s.tickValue (s.tickCount + 1) }
  if s'.sleeping then { s' with sleeping := false }.respond 0 else s'

/-- The host sends a word (R90). -/
def State.hostSend (s : State) (w : Word) : State := { s with channel := s.channel ++ [w] }

/-- The host consumes the next response word, if there is one (R101, R278). -/
def State.hostRead (s : State) : State :=
  { s with responsesRead := min (s.responsesRead + 1) s.responses.length }

/-- Reset (R260): every register at its reset value, the words of a command in flight dropped, `BUF` unspecified from here
on (a fresh free value, log 3), words in the channel without effect (R261, log 6). Responses and paint events already
produced stand; the parameters and the other agents are not touched (R262). -/
def State.doReset (s : State) : State :=
  { State.resetWith s.build with
    responses := s.responses
    responsesRead := s.responsesRead
    paints := s.paints
    transportReady := s.transportReady
    schedule := s.schedule
    resets := s.resets + 1 }

/-- One move of one agent. -/
def takeTurn (t : Turn) (s : State) : Host.Outcome State Fault Refusal :=
  match t with
  | .hostSend w => .next (s.hostSend w)
  | .hostRead => .next s.hostRead
  | .engine => engineTurn s
  | .tick => .next s.tick
  | .transport ready => .next { s with transportReady := ready }
  | .reset => .next s.doReset

/-- The turn that comes next: the first of the schedule, or the band engine's when nobody else is to move (log 4). -/
def State.nextTurn (s : State) : Turn := s.schedule.headD .engine

/-- A state whose very next turn is the band engine's, at a command boundary, free to execute, with the words `ws` in the
command channel. -/
def State.withCommand (s : State) (ws : List Word) : State :=
  { s with
    schedule := []
    held := []
    channel := ws
    locked := false
    sleeping := false
    transportReady := true }

end Sys2Proof.Machine
end

