-- ==== Sys2Proof/Machine/Step.lean ====
section
/-! DEFINITION. One step of the machine: the next turn of the schedule (`00_scope.md` R18, R19). -/

namespace Sys2Proof.Machine

/-- One step: the next agent moves (R18). Which agent it is stands in `schedule`; with an empty schedule the band engine
moves (log 4). A block with nothing to do answers the same state (log 12). -/
def step (s : State) : Host.Outcome State Fault Refusal :=
  takeTurn s.nextTurn { s with schedule := s.schedule.tail }

/-- `s` with the command of an opcode-table word in the command channel, so that the next step accepts and executes exactly
it (log 5). -/
def State.withFetchWord (s : State) (nbits w : Nat) : State := s.withCommand (tableCommand nbits w)

end Sys2Proof.Machine
end

