-- ==== Sys2Proof/Safety.lean ====
section
/-! DEFINITION. What counts as a good state and a good run of the band engine, in the terms the claims use: the view of the
band-cursor state machine (`10_state.md` R40), the `idle` output (`60_exceptions.md` R248), runs of commands and ticks, and the
invariant of every reachable state. -/

namespace Sys2Proof.Machine

/-- The three states of the band-cursor state machine (R40). -/
inductive BandState where
  | idle
  | rendering
  | exhausted
deriving DecidableEq, Repr

/-- The state machine as a view of `cursor` and `pendingFlush` (R40). -/
def State.bandState (s : State) : BandState :=
  if s.cursor = s.build.height then .exhausted
  else if s.cursor = 0 ∧ s.pendingFlush = false then .idle
  else .rendering

/-- The `idle` output equals the `sleeping` bit (R248). -/
def State.idle (s : State) : Bool := s.sleeping

/-- What moves the block between two resets: a command that executes, or a tick event (R18, R19). -/
inductive Event where
  | command (i : Instr)
  | tick
deriving DecidableEq, Repr

/-- The effect of one event. -/
def Event.apply : Event → State → Host.Outcome State Fault Refusal
  | .command i, s => exec i s
  | .tick, s => .next s.tick

/-- The events `es`, one after the other: commands in order, with ticks between them (R73 a, R19). -/
def runEvents : List Event → State → Host.Outcome State Fault Refusal
  | [], s => .next s
  | e :: es, s =>
    match e.apply s with
    | .next t => runEvents es t
    | .fault f => .fault f
    | .refused r => .refused r

/-- The commands `is`, executed one after the other (R73 a). -/
def execs (is : List Instr) (s : State) : Host.Outcome State Fault Refusal := runEvents (is.map .command) s

/-- No `POLL` among the events `es`, run from `s`, grants a frame: each of them leaves `pendingFlush` clear (R123). -/
def noGrant : List Event → State → Bool
  | [], _ => true
  | e :: es, s =>
    match e.apply s with
    | .next t => (e != .command .poll || !t.pendingFlush) && noGrant es t
    | .fault _ => true
    | .refused _ => true

/-- A run that has not left the behaviour the source defines: no fault bit is set (R232). -/
def State.FaultFree (s : State) : Prop := s.fault = 0

/-- What holds of the block at every moment: its parameters are legal (R8), `BUF` has its canonical form (R70), every register
is within its width (R10), the relations between registers that the spec states (R24, R33, R36, R37, R38, R44, R231),
and what has been sent is well formed (R101, R246). -/
structure State.Inv (s : State) : Prop where
  legal : s.build.Legal
  bufWf : Memory.wf s.build.width s.buf = true
  cursorAligned : s.cursor % 8 = 0
  cursorRange : s.cursor ≤ s.build.height
  nextFrameStartWidth : s.nextFrameStart < 2 ^ s.build.tickw
  lastFrameStartWidth : s.lastFrameStart < 2 ^ s.build.tickw
  lastFrameDurationWidth : s.lastFrameDuration < 2 ^ s.build.tickw
  tickCountWidth : s.tickCount < 2 ^ s.build.tickw
  period : s.framePeriod.toNat = if s.frameRate = 0 then 0 else max 1 (1000 / s.frameRate.toNat)
  lockedIff : s.locked = s.fault.getLsbD 0
  lockedQuiet : s.locked = true → s.sleeping = false ∧ s.held = []
  sleepingQuiet : s.sleeping = true → s.pendingFlush = false ∧ s.held = []
  checkedNoOob : s.build.boundsCheck = true → s.fault.getLsbD 3 = false
  heldWords : decode s.held = .incomplete ∨ s.held = encode .flush
  responseWidth : ∀ v ∈ s.responses, v < 2 ^ s.build.respw
  readBound : s.responsesRead ≤ s.responses.length
  paintForm : ∀ p ∈ s.paints,
    p.cursor % 8 = 0 ∧ p.cursor + 8 ≤ s.build.height ∧ p.bytes.length = s.build.width

end Sys2Proof.Machine
end

