-- ==== Sys2Proof/Claims.lean ====
section
/-! DEFINITION. The vocabulary of the claims about drawing: the shapes as sets of pixels, said by inequalities and closed forms
and not by the loops of the meanings, and what it is for a state to be another one with a set of pixels drawn. -/

namespace Sys2Proof.Claims

open Sys2Proof.Machine

/-- Which pixels a command attempts, and in which colour. -/
abbrev Ink := Int → Int → Bool → Prop

/-- The pixels of a shape, all in one colour. -/
def inColour (c : Bool) (shape : Int → Int → Prop) : Ink := fun x y c' => c' = c ∧ shape x y

/-- Row `y` lies in the active band, and in the canvas where that is checked (R143). -/
def RowReached (s : State) (y : Int) : Prop :=
  band y = (s.cursor : Int) ∧ (s.build.boundsCheck = true → 0 ≤ y ∧ y < s.build.height)

/-- The ink writes colour `c` to bit `b` of column `x` of `BUF` (R61, R64, R143). -/
def Hits (ink : Ink) (s : State) (x b : Nat) (c : Bool) : Prop :=
  x < s.build.width ∧ b < 8 ∧ RowReached s (s.cursor + b) ∧ ink x (s.cursor + b) c

/-- With the bounds check off, the ink attempts an in-band pixel outside the columns (R143, the OOB case). -/
def OffEdge (ink : Ink) (s : State) : Prop :=
  s.build.boundsCheck = false ∧
    ∃ x y c, ink x y c ∧ band y = (s.cursor : Int) ∧ (x < 0 ∨ (s.build.width : Int) ≤ x)

/-- `t` is `s` after a command that attempts the pixels of `ink` (R143, R160): exactly the bits that the ink hits have its
colour, every other bit of every column is as it was, `OOB` is set exactly when it must be, and no other state changes. -/
structure Drawn (ink : Ink) (s t : State) : Prop where
  frame : t = { s with buf := t.buf, fault := t.fault }
  inked : ∀ x b c, Hits ink s x b c → (t.column x).getLsbD b = c
  kept : ∀ x b, (∀ c, ¬ Hits ink s x b c) → (t.column x).getLsbD b = (s.column x).getLsbD b
  oob : OffEdge ink s → t.fault = s.fault ||| 0b1000#4
  noFault : ¬ OffEdge ink s → t.fault = s.fault

/-- Rows `y .. y+h-1` of column `x` (R161). -/
def OnVLine (x y h px py : Int) : Prop := px = x ∧ y ≤ py ∧ py < y + h

/-- Columns `x .. x+w-1` of row `y` (R162). -/
def OnHLine (x y w px py : Int) : Prop := py = y ∧ x ≤ px ∧ px < x + w

/-- How many minor steps `Line` has taken before it draws its k-th pixel: the least m with `dx div 2 - k·dy + m·dx >= 0`,
rounded up in closed form (R163). -/
def minorSteps (dx dy k : Int) : Int := (k * dy + dx - 1 - dx / 2) / dx

/-- A line in its working frame, major coordinate first, `x0 <= x1` (R163). -/
def OnLineFrame (x0 y0 x1 y1 major minor : Int) : Prop :=
  x0 ≤ major ∧ major ≤ x1 ∧
    minor = y0 + (if y0 < y1 then 1 else -1) * minorSteps (x1 - x0) |y1 - y0| (major - x0)

/-- A line with its endpoints reordered so that the major coordinate increases (R163). -/
def OnLineOrdered (x0 y0 x1 y1 major minor : Int) : Prop :=
  if x0 > x1 then OnLineFrame x1 y1 x0 y0 major minor else OnLineFrame x0 y0 x1 y1 major minor

/-- The pixels of `Line(x0, y0, x1, y1)` in closed form: the roles of x and y swap when `|dy| > |dx|` (R163). -/
def OnLine (x0 y0 x1 y1 px py : Int) : Prop :=
  if |y1 - y0| > |x1 - x0| then OnLineOrdered y0 x0 y1 x1 py px else OnLineOrdered x0 y0 x1 y1 px py

/-- The rectangle `x .. x+w-1` by `y .. y+h-1` (R166). -/
def InRect (x y w h px py : Int) : Prop := x ≤ px ∧ px < x + w ∧ y ≤ py ∧ py < y + h

/-- The one-pixel outline of that rectangle (R165). -/
def OnRect (x y w h px py : Int) : Prop :=
  InRect x y w h px py ∧ (px = x ∨ px = x + w - 1 ∨ py = y ∨ py = y + h - 1)

/-- The pairs of the midpoint iteration from the pair (i, j), said by the circle's equation and without the loop's decision
variable: while `i < j`, the next pair has `i + 1`, and `j - 1` exactly when the midpoint below (i + 1, j) is not inside
the circle, `(i+1)^2 + (j - 1/2)^2 >= r^2 + 1/4`; the list ends at the first pair with `i >= j` (R181). -/
def OctantFrom (r : Int) : (i j : Int) → List Point → Prop
  | i, j, [] => j ≤ i
  | i, j, p :: ps =>
    i < j ∧ p = (i + 1, if 0 ≤ (i + 1) ^ 2 + j ^ 2 - j - r ^ 2 then j - 1 else j) ∧ OctantFrom r p.1 p.2 ps

/-- (px, py) lies at the offsets `i`, `j` from the centre, on either axis and to either side (R182). -/
def AtOffsets (x0 y0 i j px py : Int) : Prop :=
  (|px - x0| = i ∧ |py - y0| = j) ∨ (|px - x0| = j ∧ |py - y0| = i)

/-- The outline of the circle: four axis points and the 8-way symmetric points of `Octant(r)` (R182). -/
def OnCircle (x0 y0 r px py : Int) : Prop :=
  0 ≤ r ∧ (AtOffsets x0 y0 r 0 px py ∨ ∃ i j, (i, j) ∈ octant r ∧ AtOffsets x0 y0 i j px py)

/-- (px, py) lies in a quadrant that the mask selects: bits 0 to 3 are upper left, upper right, lower right, lower left
(R183). -/
def InQuadrant (corners : Nibble) (x0 y0 px py : Int) : Prop :=
  (corners.getLsbD 0 = true ∧ px ≤ x0 ∧ py ≤ y0) ∨ (corners.getLsbD 1 = true ∧ x0 ≤ px ∧ py ≤ y0) ∨
    (corners.getLsbD 2 = true ∧ x0 ≤ px ∧ y0 ≤ py) ∨ (corners.getLsbD 3 = true ∧ px ≤ x0 ∧ y0 ≤ py)

/-- The points of `CircleQ` (R183). -/
def OnCircleQ (x0 y0 r : Int) (corners : Nibble) (px py : Int) : Prop :=
  ∃ i j, (i, j) ∈ octant r ∧ AtOffsets x0 y0 i j px py ∧ InQuadrant corners x0 y0 px py

/-- The column `px` at horizontal offset `d` from x0, on a side that the mask selects: bit 0 right, bit 1 left (R184). -/
def OnSide (sides : Nibble) (x0 d px : Int) : Prop :=
  (sides.getLsbD 0 = true ∧ px = x0 + d) ∨ (sides.getLsbD 1 = true ∧ px = x0 - d)

/-- The spans of `FCircleQ`: at horizontal offset i from `y0 - j` down to `y0 + j + delta`, and at offset j likewise with
i (R184). -/
def OnFCircleQ (x0 y0 r : Int) (sides : Nibble) (delta px py : Int) : Prop :=
  ∃ i j, (i, j) ∈ octant r ∧
    ((OnSide sides x0 i px ∧ y0 - j ≤ py ∧ py ≤ y0 + j + delta) ∨
      (OnSide sides x0 j px ∧ y0 - i ≤ py ∧ py ≤ y0 + i + delta))

/-- The pixels of `FCIRCLE`: the centre column and both helper passes (R185). -/
def OnFCircle (x0 y0 r px py : Int) : Prop :=
  0 ≤ r ∧ ((px = x0 ∧ y0 - r ≤ py ∧ py ≤ y0 + r) ∨ OnFCircleQ x0 y0 r 3 0 px py)

/-- The clamped radius (R186): a negative radius counts as 0, one larger than half the shorter side is reduced to it. -/
def clampedRadius (w h r : Int) : Int :=
  if r < 0 then 0 else if min w h / 2 < r then min w h / 2 else r

/-- The pixels of `RRECT` for a clamped radius `r`: four shortened edges and four quarter circles (R187). -/
def OnRoundedOutline (x y w h r px py : Int) : Prop :=
  OnHLine (x + r) y (w - 2 * r) px py ∨ OnHLine (x + r) (y + h - 1) (w - 2 * r) px py ∨
    OnVLine x (y + r) (h - 2 * r) px py ∨ OnVLine (x + w - 1) (y + r) (h - 2 * r) px py ∨
    OnCircleQ (x + r) (y + r) r 1 px py ∨ OnCircleQ (x + w - r - 1) (y + r) r 2 px py ∨
    OnCircleQ (x + w - r - 1) (y + h - r - 1) r 4 px py ∨ OnCircleQ (x + r) (y + h - r - 1) r 8 px py

/-- The pixels of `RRECT` (R187). -/
def OnRRect (x y w h r px py : Int) : Prop :=
  0 < w ∧ 0 < h ∧ OnRoundedOutline x y w h (clampedRadius w h r) px py

/-- The pixels of `FRRECT` for a clamped radius `r`: the central rectangle and two helper passes (R188). -/
def OnRoundedFill (x y w h r px py : Int) : Prop :=
  InRect (x + r) y (w - 2 * r) h px py ∨
    OnFCircleQ (x + w - r - 1) (y + r) r 1 (h - 2 * r - 1) px py ∨
    OnFCircleQ (x + r) (y + r) r 2 (h - 2 * r - 1) px py

/-- The pixels of `FRRECT` (R188). -/
def OnFRRect (x y w h r px py : Int) : Prop :=
  0 < w ∧ 0 < h ∧ OnRoundedFill x y w h (clampedRadius w h r) px py

/-- The pixels of `TRI`: its three sides (R201). -/
def OnTri (x0 y0 x1 y1 x2 y2 px py : Int) : Prop :=
  OnLine x0 y0 x1 y1 px py ∨ OnLine x1 y1 x2 y2 px py ∨ OnLine x2 y2 x0 y0 px py

/-- Where the edge from (xa, ya) to (xb, yb) crosses row `y`: the division truncates toward zero (R202, R12). -/
def crossing (xa ya xb yb y : Int) : Int := xa + Int.tdiv ((xb - xa) * (y - ya)) (yb - ya)

/-- `px` lies between `a` and `b`, whichever is the left one (R202). -/
def Between (a b px : Int) : Prop := min a b ≤ px ∧ px ≤ max a b

/-- The fill of a triangle with vertices p, q, r sorted by y: on each row, from the crossing with edge q-r (or, above q and
when q-r is flat, edge p-q) to the crossing with the long edge p-r; one span when all y are equal (R202). -/
def InSortedTri (p q r : Point) (px py : Int) : Prop :=
  p.2 ≤ py ∧ py ≤ r.2 ∧
    if p.2 = r.2 then min p.1 (min q.1 r.1) ≤ px ∧ px ≤ max p.1 (max q.1 r.1)
    else Between
      (if py < q.2 ∨ q.2 = r.2 then crossing p.1 p.2 q.1 q.2 py else crossing q.1 q.2 r.1 r.2 py)
      (crossing p.1 p.2 r.1 r.2 py) px

/-- `p`, `q`, `r` are the three vertices in an order of rising y (R202 step 1). -/
def SortedVertices (x0 y0 x1 y1 x2 y2 : Int) (p q r : Point) : Prop :=
  List.Perm [p, q, r] [(x0, y0), (x1, y1), (x2, y2)] ∧ p.2 ≤ q.2 ∧ q.2 ≤ r.2

/-- The pixels of `FTRI` (R202). -/
def InFTri (x0 y0 x1 y1 x2 y2 px py : Int) : Prop :=
  ∃ p q r, SortedVertices x0 y0 x1 y1 x2 y2 p q r ∧ InSortedTri p q r px py

/-- The pixels of a glyph cell with their colours: logical pixel (i, j) is a block of `size` × `size`; a set bit is drawn in
`fg`, a clear one in `bg` unless the colours are equal; the sixth column is blank (R211). -/
def GlyphInk (s : State) (x y : Int) (c size : Nat) (bg fg : Bool) : Ink := fun px py col =>
  ∃ i j : Nat, i < 6 ∧ j < 8 ∧
    x + i * size ≤ px ∧ px < x + (i + 1) * size ∧ y + j * size ≤ py ∧ py < y + (j + 1) * size ∧
    if i < 5 ∧ (s.glyphByte c i).getLsbD j = true then col = fg else fg ≠ bg ∧ col = bg

/-- The pixels that each command attempts; a command that draws nothing has no ink. -/
def inkOf (s : State) : Instr → Ink
  | .setrate _ => fun _ _ _ => False
  | .poll => fun _ _ _ => False
  | .load => fun _ _ _ => False
  | .everyn _ => fun _ _ _ => False
  | .faults => fun _ _ _ => False
  | .needs => fun _ _ _ => False
  | .clear _ => fun _ _ _ => False
  | .pixel x y col => inColour (col != 0) fun px py => px = x.toInt ∧ py = y.toInt
  | .flush => fun _ _ _ => False
  | .vline x y h col => inColour (col != 0) (OnVLine x.toInt y.toInt h.toInt)
  | .hline x y w col => inColour (col != 0) (OnHLine x.toInt y.toInt w.toInt)
  | .line x0 y0 x1 y1 col => inColour (col != 0) (OnLine x0.toInt y0.toInt x1.toInt y1.toInt)
  | .rect x y w h col => inColour (col != 0) (OnRect x.toInt y.toInt w.toInt h.toInt)
  | .frect x y w h col => inColour (col != 0) (InRect x.toInt y.toInt w.toInt h.toInt)
  | .circle x0 y0 r col => inColour (col != 0) (OnCircle x0.toInt y0.toInt r.toInt)
  | .circleq x0 y0 r corners col => inColour (col != 0) (OnCircleQ x0.toInt y0.toInt r.toInt corners)
  | .fcircle x0 y0 r col => inColour (col != 0) (OnFCircle x0.toInt y0.toInt r.toInt)
  | .fcircleq x0 y0 r delta sides col =>
    inColour (col != 0) (OnFCircleQ x0.toInt y0.toInt r.toInt sides delta.toInt)
  | .rrect x y w h r col => inColour (col != 0) (OnRRect x.toInt y.toInt w.toInt h.toInt r.toInt)
  | .frrect x y w h r col => inColour (col != 0) (OnFRRect x.toInt y.toInt w.toInt h.toInt r.toInt)
  | .tri x0 y0 x1 y1 x2 y2 col =>
    inColour (col != 0) (OnTri x0.toInt y0.toInt x1.toInt y1.toInt x2.toInt y2.toInt)
  | .ftri x0 y0 x1 y1 x2 y2 col =>
    inColour (col != 0) (InFTri x0.toInt y0.toInt x1.toInt y1.toInt x2.toInt y2.toInt)
  | .char x y ch size bg fg => GlyphInk s x.toInt y.toInt ch.toNat size.toNat (bg != 0) (fg != 0)
  | .char1 x y w3 bg fg => GlyphInk s x.toInt y.toInt (w3.toNat % 256) 1 (bg != 0) (fg != 0)
  | .hitspan _ _ => fun _ _ _ => False
  | .hitglyph _ _ => fun _ _ _ => False

/-- The vertical extent (top row, height) of a drawing command: the table of R224. -/
def extent : Instr → Option (Int × Int)
  | .setrate _ => none
  | .poll => none
  | .load => none
  | .everyn _ => none
  | .faults => none
  | .needs => none
  | .clear _ => none
  | .pixel _ y _ => some (y.toInt, 1)
  | .flush => none
  | .vline _ y h _ => some (y.toInt, h.toInt)
  | .hline _ y w _ => some (y.toInt, if w.toInt ≤ 0 then 0 else 1)
  | .line _ y0 _ y1 _ => some (min y0.toInt y1.toInt, |y1.toInt - y0.toInt| + 1)
  | .rect _ y _ h _ => some (y.toInt, h.toInt)
  | .frect _ y _ h _ => some (y.toInt, h.toInt)
  | .circle _ y0 r _ => some (y0.toInt - r.toInt, 2 * r.toInt + 1)
  | .circleq _ y0 r _ _ => some (y0.toInt - r.toInt, 2 * r.toInt + 1)
  | .fcircle _ y0 r _ => some (y0.toInt - r.toInt, 2 * r.toInt + 1)
  | .fcircleq _ y0 r delta _ _ => some (y0.toInt - r.toInt, 2 * r.toInt + 1 + max delta.toInt 0)
  | .rrect _ y _ h _ _ => some (y.toInt, h.toInt)
  | .frrect _ y _ h _ _ => some (y.toInt, h.toInt)
  | .tri _ y0 _ y1 _ y2 _ =>
    some (min y0.toInt (min y1.toInt y2.toInt),
      max y0.toInt (max y1.toInt y2.toInt) - min y0.toInt (min y1.toInt y2.toInt) + 1)
  | .ftri _ y0 _ y1 _ y2 _ =>
    some (min y0.toInt (min y1.toInt y2.toInt),
      max y0.toInt (max y1.toInt y2.toInt) - min y0.toInt (min y1.toInt y2.toInt) + 1)
  | .char _ y _ size _ _ => some (y.toInt, 8 * size.toNat)
  | .char1 _ y _ _ _ => some (y.toInt, 8)
  | .hitspan _ _ => none
  | .hitglyph _ _ => none

/-- The seven commands that answer with one response word (R101). -/
def responds : Instr → Bool
  | .poll | .load | .everyn _ | .faults | .needs | .hitspan _ _ | .hitglyph _ _ => true
  | .setrate _ | .clear _ | .pixel _ _ _ | .flush | .vline _ _ _ _ | .hline _ _ _ _ | .line _ _ _ _ _
  | .rect _ _ _ _ _ | .frect _ _ _ _ _ | .circle _ _ _ _ | .circleq _ _ _ _ _ | .fcircle _ _ _ _
  | .fcircleq _ _ _ _ _ _ | .rrect _ _ _ _ _ _ | .frrect _ _ _ _ _ _ | .tri _ _ _ _ _ _ _
  | .ftri _ _ _ _ _ _ _ | .char _ _ _ _ _ _ | .char1 _ _ _ _ _ => false

/-- The sixteen commands that write `BUF` pixel by pixel (R39, R140). -/
def isDrawing (i : Instr) : Bool := (extent i).isSome

/-- When a command raises a fault: the table of R231. -/
def Raises (i : Instr) (s : State) : FaultBit → Prop
  | .illegal => i.wellFormed = false
  | .divzero => i = .setrate 0 ∨ (i = .load ∧ s.framePeriod = 0) ∨ i = .everyn 0
  | .flushx => i = .flush ∧ s.build.height ≤ s.cursor
  | .oob => i.wellFormed = true ∧ OffEdge (inkOf s i) s

/-- A state with the content of `BUF` hidden: the columns, the number of the free value that fills the unwritten ones, and the
bytes of the paint events. -/
def hideBuf (s : State) : State :=
  { s with buf := [], resets := 0, paints := s.paints.map fun p => { p with bytes := [] } }

/-- The schedule in which the host sends words one at a time and the engine moves after each. -/
def wordByWord (ws : List Word) : List Turn := ws.flatMap fun w => [.hostSend w, .engine]

/-- The commands `VLINE x+k, y, h, c` for k = 0 .. w-1 (R167). -/
def vlineColumns (x y h w : Word) (col : Nibble) : List Instr :=
  (List.range w.toInt.toNat).map fun k => .vline (x + BitVec.ofNat 16 k) y h col

end Sys2Proof.Claims
end

