-- ==== Sys2Proof/Certificates/Slice0/Obligations.lean ====
section
/-! DEFINITION. The statements for the provers, in the order of `OBLIGATIONS.json`. Each docstring names the rule of `spec/`
it formalises. The parameters of R8 are a field of the state, so a statement about every state holds for every WIDTH, HEIGHT,
BOUNDS_CHECK, TICKW and glyph ROM. -/

open Sys2Proof Sys2Proof.Machine Sys2Proof.Claims

/-! ### Encoding (`30_encoding.md`) -/

/-- Decoding the words of a well-formed command, whatever follows them, gives that command and leaves the rest (R91 to R98). -/
def Obligations.DecodeEncodeRoundTrip : Prop :=
  ∀ (i : Instr) (rest : List Word), i.WellFormed → decode (encode i ++ rest) = .command i rest

/-- Whatever words the decoder accepts are the encoding of the well-formed command it answers (R91 to R98): no two
encodings give one command, and no reserved bit is dropped. -/
def Obligations.DecodeReadsExactlyOneEncoding : Prop :=
  ∀ (ws rest : List Word) (i : Instr), decode ws = .command i rest → i.WellFormed ∧ ws = encode i ++ rest

/-- A command executes when its last word has been accepted: until then its words decode to no command (R91, R98). -/
def Obligations.DecodeWaitsForAllWords : Prop :=
  ∀ (i : Instr) (k : Nat), i.WellFormed → k < (encode i).length → decode ((encode i).take k) = .incomplete

/-- The encoding examples and the illegal examples of R105. -/
def Obligations.DecodeSpecExamples : Prop :=
  decode [0x0100, 0x003C] = .command (.setrate 60) [] ∧
  decode [0x0200] = .command .poll [] ∧
  decode [0x1100] = .command (.clear 0) [] ∧
  decode [0x1101] = .command (.clear 1) [] ∧
  decode [0x1201, 0x0003, 0x000A] = .command (.pixel 3 10 1) [] ∧
  decode [0x1201, 0xFFFF, 0x0004] = .command (.pixel (BitVec.ofInt 16 (-1)) 4 1) [] ∧
  decode [0x1300] = .command .flush [] ∧
  decode [0x2201, 0x0000, 0x0000, 0x0007, 0x0000] = .command (.line 0 0 7 0 1) [] ∧
  decode [0x2401, 0x0002, 0x0001, 0x0003, 0x0004] = .command (.frect 2 1 3 4 1) [] ∧
  decode [0x3151, 0x000A, 0x000A, 0x0004] = .command (.circleq 10 10 4 5 1) [] ∧
  decode [0x3321, 0x000A, 0x000A, 0x0004, 0xFFFF] =
    .command (.fcircleq 10 10 4 (BitVec.ofInt 16 (-1)) 2 1) [] ∧
  decode [0x5001, 0x0000, 0x0000, 0x0241] = .command (.char 0 0 65 2 0 1) [] ∧
  decode [0x5101, 0x0000, 0x0000, 0x0041] = .command (.char1 0 0 65 0 1) [] ∧
  decode [0x6000, 0x000A, 0x0005] = .command (.hitspan 10 5) [] ∧
  decode [0x6100, 0xFFFC, 0x0002] = .command (.hitglyph (BitVec.ofInt 16 (-4)) 2) [] ∧
  decode [0x0000] = .illegal .noSuchHeader [] ∧
  decode [0x0201] = .illegal .noSuchHeader [] ∧
  decode [0x1210] = .illegal .noSuchHeader [] ∧
  decode [0x3341] = .illegal .noSuchHeader [] ∧
  decode [0x5101, 0x0000, 0x0000, 0x0141] = .illegal .operandNotZero []

/-! ### The band engine's turn -/

/-- R99, in a state where the engine moves, is not locked and does not sleep. (a) A header word that matches no row, and
(b) a `CHAR1` or `HITGLYPH` whose must-be-zero byte is not zero: nothing is executed, ILLEGAL is set and the block
locks; the words after it stay in the channel. From then on a turn of the engine discards a word and
does nothing else; that it is one word a turn is the model's choice (log 15). -/
def Obligations.IllegalCommandLocks : Prop :=
  (∀ (s : State) (h : Word) (ws : List Word), s.schedule = [] → s.locked = false → s.sleeping = false →
    s.held ++ s.channel = h :: ws → (∀ o ∈ Opcode.all, h &&& o.mask ≠ o.pattern) →
    step s = .next { s with held := [], channel := ws, fault := s.fault ||| 0b0001#4, locked := true }) ∧
  (∀ (s : State) (h x y w3 : Word) (ws : List Word), s.schedule = [] → s.locked = false → s.sleeping = false →
    s.held ++ s.channel = h :: x :: y :: w3 :: ws → h &&& 0xFF00#16 = 0x5100#16 → w3 >>> 8 ≠ 0 →
    step s = .next { s with held := [], channel := ws, fault := s.fault ||| 0b0001#4, locked := true }) ∧
  (∀ (s : State) (y w2 : Word) (ws : List Word), s.schedule = [] → s.locked = false → s.sleeping = false →
    s.held ++ s.channel = 0x6100#16 :: y :: w2 :: ws → w2 >>> 8 ≠ 0 →
    step s = .next { s with held := [], channel := ws, fault := s.fault ||| 0b0001#4, locked := true }) ∧
  (∀ s : State, s.schedule = [] → s.locked = true → step s = .next { s with channel := s.channel.drop 1 })

/-- R37: while the block is locked, no turn but reset changes any state of the block except `tickCount` (and that only at a
tick event), no response or paint event is produced, and an engine turn discards a word (log 15); the lock is left at reset,
and only there. The fields that may change beside it are the other agents': the channel, the schedule, what the host has
read, the transport's readiness. -/
def Obligations.LockedBlockDiscards : Prop :=
  ∀ s t : State, s.Inv → s.locked = true → step s = .next t →
    (s.nextTurn ≠ .reset →
      t = { s with channel := t.channel, schedule := t.schedule, tickCount := t.tickCount,
                   responsesRead := t.responsesRead, transportReady := t.transportReady } ∧
      (s.nextTurn ≠ .tick → t.tickCount = s.tickCount)) ∧
    (s.nextTurn = .engine → t.channel = s.channel.drop 1) ∧
    (s.nextTurn = .reset → t.locked = false)

/-- When the engine moves, free to execute, and the words it has are those of a well-formed command, the step is `exec` of that
command, on the state with its words taken (R91, R98). A `FLUSH` with a band to hand over needs a ready transport. The second part
is the same of the host's placement of an opcode-table word. -/
def Obligations.StepRunsDecodedCommand : Prop :=
  (∀ (s : State) (i : Instr) (rest : List Word) (sch : List Turn), i.WellFormed →
    (s.schedule = [] ∧ sch = [] ∨ s.schedule = .engine :: sch) → s.locked = false → s.sleeping = false →
    s.held ++ s.channel = encode i ++ rest →
    (i = .flush → s.cursor < s.build.height → s.transportReady = true) →
    step s = exec i { s with schedule := sch, held := [], channel := rest }) ∧
  (∀ (s : State) (nbits w : Nat) (i : Instr), decodeTableWord nbits w = some i →
    step (s.withFetchWord nbits w) =
      exec i { s with schedule := [], held := [], channel := [], locked := false, sleeping := false,
                      transportReady := true })

/-- The turns in which nothing is executed. A sleeping engine accepts no word (R38); words that are not yet a whole command are
kept (R44); a `FLUSH` waits while the transport is not ready (R246, the model's form of it is log 8); and what the host and the
transport do touches only the channel, the count of words read and the readiness (log 4, log 10). -/
def Obligations.IdleTurns : Prop :=
  (∀ s : State, s.schedule = [] → s.locked = false → s.sleeping = true → step s = .next s) ∧
  (∀ s : State, s.schedule = [] → s.locked = false → s.sleeping = false →
    decode (s.held ++ s.channel) = .incomplete →
    step s = .next { s with held := s.held ++ s.channel, channel := [] }) ∧
  (∀ (s : State) (rest : List Word), s.schedule = [] → s.locked = false → s.sleeping = false →
    s.held ++ s.channel = 0x1300#16 :: rest → s.cursor < s.build.height → s.transportReady = false →
    step s = .next { s with held := [0x1300#16], channel := rest }) ∧
  (∀ (s : State) (w : Word) (sch : List Turn), s.schedule = .hostSend w :: sch →
    step s = .next { s with schedule := sch, channel := s.channel ++ [w] }) ∧
  (∀ (s : State) (sch : List Turn), s.schedule = .hostRead :: sch →
    step s = .next { s with schedule := sch,
                            responsesRead := min (s.responsesRead + 1) s.responses.length }) ∧
  (∀ (s : State) (r : Bool) (sch : List Turn), s.schedule = .transport r :: sch →
    step s = .next { s with schedule := sch, transportReady := r })

/-- A host that sends the words of a command one at a time, the engine moving after each, gets what a host gets that sends
the command whole (R44: "a model may take a command as one atomic datum"). -/
def Obligations.WordsOneAtATime : Prop :=
  ∀ (i : Instr) (s : State) (sch : List Turn), i.WellFormed → s.locked = false → s.sleeping = false →
    s.held = [] → s.channel = [] → (i = .flush → s.transportReady = true) →
    Sys2Proof.core.run (2 * (encode i).length) { s with schedule := wordByWord (encode i) ++ sch } =
      exec i { s with schedule := sch }

/-- The invariant of every step (R8, R24, R26, R33, R36, R37, R38, R44, R70, R101, R231, R246), and that no step changes
the parameters (R215, R262). -/
def Obligations.StepKeepsInvariant : Prop :=
  ∀ s t : State, s.Inv → step s = .next t → t.Inv ∧ t.build = s.build

/-- The invariant holds after reset, of a block with any legal parameters, and of the block of `State.reset` (log 1). -/
def Obligations.ResetMeetsInvariant : Prop :=
  (∀ p : Params, p.Legal → (State.resetWith p).Inv) ∧ State.reset.Inv

/-- R260, R262: reset, in any state, gives every register its reset value and puts the decoder at a command boundary; the
parameters are not touched; responses and paint events produced before stand. That `BUF` is unspecified from there on is, in the
model, a fresh free value in every column (log 3); that words waiting in the channel are dropped is the model's reading (log 6). -/
def Obligations.ResetEvent : Prop :=
  ∀ (s : State) (sch : List Turn), s.schedule = .reset :: sch →
    ∃ t, step s = .next t ∧ t.schedule = sch ∧ t.cursor = 0 ∧ t.frameRate = 0 ∧ t.framePeriod = 0 ∧
      t.nextFrameStart = 0 ∧ t.lastFrameStart = 0 ∧ t.lastFrameDuration = 0 ∧ t.frameCounter = 0 ∧
      t.pendingFlush = false ∧ t.tickCount = 0 ∧ t.fault = 0b0000#4 ∧ t.locked = false ∧ t.sleeping = false ∧
      t.held = [] ∧ t.channel = [] ∧ t.build = s.build ∧ t.responses = s.responses ∧ t.paints = s.paints ∧
      (∀ x, t.column x = Config.bufReset (s.resets + 1) x)

/-- R240: a tick event increments `tickCount` modulo 2^TICKW and ends the sleep of a suspended `POLL`, which then responds 0;
nothing else, locked or not. But for reset, nothing else writes `tickCount`. -/
def Obligations.TickEvent : Prop :=
  (∀ (s : State) (sch : List Turn), s.schedule = .tick :: sch →
    step s = .next { s with
      schedule := sch
      tickCount := (s.tickCount + 1) % 2 ^ s.build.tickw
      sleeping := false
      responses := if s.sleeping then s.responses ++ [0] else s.responses }) ∧
  (∀ s t : State, s.nextTurn ≠ .tick → s.nextTurn ≠ .reset → step s = .next t → t.tickCount = s.tickCount)

/-! ### The frame pacer (`40_pacer.md`) -/

/-- R121: `SETRATE`. -/
def Obligations.SetrateResult : Prop :=
  ∀ (s : State) (rate : Word),
    (rate = 0 → exec (.setrate rate) s = .next { s with fault := s.fault ||| 0b0010#4 }) ∧
    (rate ≠ 0 → ∃ p : BitVec 16, p.toNat = max 1 (1000 / rate.toNat) ∧
      exec (.setrate rate) s = .next { s with frameRate := rate, framePeriod := p })

/-- R123: `POLL`, in every state: the bookkeeping, the deadline test on the modular difference, the idle wait with the 0 that the
next tick event answers, the grant, and everything it leaves alone. -/
def Obligations.PollResult : Prop :=
  ∀ s : State, ∃ t, exec .poll s = .next t ∧
    let slack : Int := ((s.nextFrameStart : Int) - s.tickCount) % (2 : Int) ^ s.build.tickw
    let isEarly : Prop := 0 < slack ∧ slack < (2 : Int) ^ (s.build.tickw - 1)
    (t.lastFrameDuration : Int) =
      (if s.pendingFlush then ((s.tickCount : Int) - s.lastFrameStart) % (2 : Int) ^ s.build.tickw
       else s.lastFrameDuration) ∧
    t.frameCounter = (if s.pendingFlush then s.frameCounter + 1 else s.frameCounter) ∧
    (isEarly → t.pendingFlush = false ∧ t.nextFrameStart = s.nextFrameStart ∧
      t.lastFrameStart = s.lastFrameStart ∧ t.cursor = s.cursor ∧
      (1 < slack → t.sleeping = true ∧ t.responses = s.responses ∧ t.tick.sleeping = false ∧
        t.tick.responses = s.responses ++ [0]) ∧
      (slack ≤ 1 → t.sleeping = s.sleeping ∧ t.responses = s.responses ++ [0])) ∧
    (¬ isEarly → t.nextFrameStart = (s.tickCount + s.framePeriod.toNat) % 2 ^ s.build.tickw ∧
      t.lastFrameStart = s.tickCount % 2 ^ s.build.tickw ∧ t.cursor = 0 ∧ t.pendingFlush = true ∧
      t.sleeping = s.sleeping ∧ t.responses = s.responses ++ [1]) ∧
    t = { s with
      lastFrameDuration := t.lastFrameDuration
      frameCounter := t.frameCounter
      pendingFlush := t.pendingFlush
      nextFrameStart := t.nextFrameStart
      lastFrameStart := t.lastFrameStart
      cursor := t.cursor
      sleeping := t.sleeping
      responses := t.responses }

/-- R129: k ticks after a grant, with k at most half the counter's range beyond the period (R272), the next `POLL` grants
exactly when k has reached the period: two consecutive grants are never less than `framePeriod` ticks apart, across
any wrap of the counter. -/
def Obligations.GrantsArePeriodApart : Prop :=
  ∀ (s s₁ s₂ t : State) (k : Nat), s.Inv → exec .poll s = .next s₁ → s₁.pendingFlush = true →
    s₂.build = s.build → s₂.nextFrameStart = s₁.nextFrameStart →
    s₂.tickCount = (s.tickCount + k) % 2 ^ s.build.tickw →
    k ≤ s.framePeriod.toNat + 2 ^ (s.build.tickw - 1) →
    exec .poll s₂ = .next t → (t.pendingFlush = true ↔ s.framePeriod.toNat ≤ k)

/-- R263 (a), (b): after reset and any commands but `POLL` (R264 sends `SETRATE` first), with ticks among them, the first `POLL`
grants, whenever it comes within 2^(TICKW-1) ticks of reset, does no bookkeeping, and sets the deadline one period ahead. -/
def Obligations.FirstPollAfterResetGrants : Prop :=
  ∀ (s t : State) (es : List Event), s.build.Legal → Event.command .poll ∉ es →
    es.count .tick ≤ 2 ^ (s.build.tickw - 1) → runEvents es s.doReset = .next t →
    ∃ u, exec .poll t = .next u ∧ u.responses = t.responses ++ [1] ∧ u.pendingFlush = true ∧ u.cursor = 0 ∧
      u.lastFrameStart = es.count .tick ∧
      u.nextFrameStart = (es.count .tick + t.framePeriod.toNat) % 2 ^ s.build.tickw ∧
      u.frameCounter = 0 ∧ u.lastFrameDuration = 0

/-- R125, R120: the wrap-safe test agrees with the comparison of the unwrapped times `n < d` while they are at most half the
counter's range apart, and a modular difference is the true duration while that is within the range. -/
def Obligations.ModularClockAgrees : Prop :=
  (∀ T n d : Nat, 1 ≤ T → n ≤ d + 2 ^ (T - 1) → d < n + 2 ^ (T - 1) →
    early T (tickDiff T (d % 2 ^ T) (n % 2 ^ T)) = decide (n < d)) ∧
  (∀ T g k : Nat, k < 2 ^ T → tickDiff T ((g + k) % 2 ^ T) (g % 2 ^ T) = k)

/-- R126: `LOAD`. The quotient is exact: it fits the response word. -/
def Obligations.LoadResult : Prop :=
  ∀ s : State, s.lastFrameDuration < 2 ^ s.build.tickw →
    (s.framePeriod = 0 →
      exec .load s = .next { s with fault := s.fault ||| 0b0010#4, responses := s.responses ++ [0] }) ∧
    (s.framePeriod ≠ 0 →
      exec .load s = .next { s with
        responses := s.responses ++ [s.lastFrameDuration * 100 / s.framePeriod.toNat] } ∧
      s.lastFrameDuration * 100 / s.framePeriod.toNat < 2 ^ (s.build.tickw + 7))

/-- The sentence that R126 quotes and R131 (b) restates, taken literally: "`LOAD` is exactly 100 when
`lastFrameDuration = framePeriod` and more when the duration is greater". Its second half is expected to FAIL: the division
truncates, so a duration of 1001 with a period of 1000 still shows 100 (log 20). -/
def Obligations.LoadExceedsHundredOnEveryOverrun : Prop :=
  ∀ s : State, s.Inv → s.framePeriod ≠ 0 →
    (s.lastFrameDuration = s.framePeriod.toNat →
      exec .load s = .next { s with responses := s.responses ++ [100] }) ∧
    (s.framePeriod.toNat < s.lastFrameDuration →
      ∃ v, exec .load s = .next { s with responses := s.responses ++ [v] } ∧ 100 < v)

/-- R127: `EVERYN`. -/
def Obligations.EverynResult : Prop :=
  ∀ (s : State) (n : Word),
    (n = 0 → exec (.everyn n) s =
      .next { s with fault := s.fault ||| 0b0010#4, responses := s.responses ++ [0] }) ∧
    (n ≠ 0 → exec (.everyn n) s =
      .next { s with responses := s.responses ++ [if s.frameCounter.toNat % n.toNat = 0 then 1 else 0] })

/-- R128: `FAULTS` responds the four bits, zero extended, and clears nothing; where it is answered, bit 0 of it is 0. -/
def Obligations.FaultsResult : Prop :=
  (∀ s : State, exec .faults s = .next { s with responses := s.responses ++ [s.fault.toNat] }) ∧
  (∀ s : State, s.Inv → s.locked = false → s.fault.toNat % 2 = 0)

/-! ### The band (`41_band.md`) -/

/-- R141: `NEEDS`. -/
def Obligations.NeedsResult : Prop :=
  ∀ s : State, exec .needs s =
    .next { s with responses := s.responses ++ [if s.cursor < s.build.height then 1 else 0] }

/-- R142: `CLEAR` overwrites every column byte, whatever the buffer held and whatever the cursor, and nothing else. -/
def Obligations.ClearResult : Prop :=
  ∀ (s : State) (col : Nibble), ∃ t, exec (.clear col) s = .next t ∧ t = { s with buf := t.buf } ∧
    ∀ x, x < s.build.width → t.column x = if col = 0 then 0x00#8 else 0xFF#8

/-- R144 and R143: `PIXEL`, and the pixel micro-operation at any integers, which may lie outside the operand range. -/
def Obligations.PixelResult : Prop :=
  (∀ (s : State) (x y : Word) (col : Nibble), ∃ t, exec (.pixel x y col) s = .next t ∧
    Drawn (inColour (col != 0) fun px py => px = x.toInt ∧ py = y.toInt) s t) ∧
  (∀ (s : State) (x y : Int) (c : Bool),
    Drawn (inColour c fun px py => px = x ∧ py = y) s (s.drawPixel (x, y) c))

/-- R145, the band-discard property: a pixel whose row is not in the active band changes nothing and raises nothing, in either
build and for every column. -/
def Obligations.OffBandPixelDiscarded : Prop :=
  ∀ (s : State) (x y : Word) (col : Nibble),
    (y.toInt < s.cursor ∨ (s.cursor : Int) + 8 ≤ y.toInt) → exec (.pixel x y col) s = .next s

/-- R146, R147: `FLUSH` paints the band and advances the cursor by 8; with no band left it is refused. -/
def Obligations.FlushResult : Prop :=
  ∀ s : State, s.Inv →
    (s.cursor < s.build.height → exec .flush s = .next { s with
      paints := s.paints ++ [{ cursor := s.cursor, bytes := (List.range s.build.width).map s.column }]
      cursor := s.cursor + 8 }) ∧
    (s.cursor = s.build.height → exec .flush s = .next { s with fault := s.fault ||| 0b0100#4 })

/-- R151 (c): k flushes from cursor 0 paint the bands 0, 8, ..., 8(k-1) and leave the cursor at 8k, so `NEEDS` turns false
after exactly HEIGHT / 8 of them. -/
def Obligations.FlushSequence : Prop :=
  ∀ (s : State) (k : Nat), s.Inv → s.cursor = 0 → k ≤ s.build.nbands →
    ∃ t, execs (List.replicate k .flush) s = .next t ∧
      t = { s with cursor := 8 * k,
                   paints := s.paints ++ (List.range k).map fun j => { cursor := 8 * j, bytes := s.bytes } } ∧
      exec .needs t = .next { t with responses := t.responses ++ [if k < s.build.nbands then 1 else 0] }

/-- R247: between two grants the block paints at most HEIGHT / 8 bands, and the cursor counts them, whatever commands the host
sends and however many ticks fall between them, `POLL`s that do not grant among them. -/
def Obligations.PaintCountBound : Prop :=
  ∀ (es : List Event) (s t : State), s.Inv → noGrant es s = true → runEvents es s = .next t →
    t.cursor + 8 * s.paints.length = s.cursor + 8 * t.paints.length ∧
    t.paints.length ≤ s.paints.length + s.build.nbands

/-- R40: the transitions of the band-cursor state machine are exactly those of its table. -/
def Obligations.BandStateMachine : Prop :=
  (∀ (s t : State) (i : Instr), s.Inv → exec i s = .next t →
    (i = .poll → t.pendingFlush = true → t.bandState = .rendering) ∧
    (i = .poll → t.pendingFlush = false →
      t.bandState = if s.bandState = .rendering ∧ s.cursor = 0 then .idle else s.bandState) ∧
    (i = .flush → s.bandState ≠ .exhausted → s.cursor + 8 < s.build.height → t.bandState = .rendering) ∧
    (i = .flush → s.bandState ≠ .exhausted → s.cursor + 8 = s.build.height → t.bandState = .exhausted) ∧
    (i = .flush → s.bandState = .exhausted → t.bandState = .exhausted ∧ t.fault.getLsbD 2 = true) ∧
    (i ≠ .poll → i ≠ .flush → t.bandState = s.bandState)) ∧
  (∀ s : State, s.build.Legal → s.doReset.bandState = .idle)

/-! ### Lines and rectangles (`42_lines_rects.md`) -/

/-- R161: `VLINE`. -/
def Obligations.VlineResult : Prop :=
  ∀ (s : State) (x y h : Word) (col : Nibble), ∃ t, exec (.vline x y h col) s = .next t ∧
    Drawn (inColour (col != 0) (OnVLine x.toInt y.toInt h.toInt)) s t

/-- R162: `HLINE`. -/
def Obligations.HlineResult : Prop :=
  ∀ (s : State) (x y w : Word) (col : Nibble), ∃ t, exec (.hline x y w col) s = .next t ∧
    Drawn (inColour (col != 0) (OnHLine x.toInt y.toInt w.toInt)) s t

/-- R163: `LINE`. The loop with its running error accumulator draws the line in closed form: at distance k along the
major axis, `minorSteps` steps along the minor one. -/
def Obligations.LineResult : Prop :=
  ∀ (s : State) (x0 y0 x1 y1 : Word) (col : Nibble), ∃ t, exec (.line x0 y0 x1 y1 col) s = .next t ∧
    Drawn (inColour (col != 0) (OnLine x0.toInt y0.toInt x1.toInt y1.toInt)) s t

/-- R163, corner case: exchanging the two endpoints of a line changes nothing. -/
def Obligations.LineEndpointsExchange : Prop :=
  ∀ (s : State) (x0 y0 x1 y1 : Word) (col : Nibble),
    exec (.line x0 y0 x1 y1 col) s = exec (.line x1 y1 x0 y0 col) s

/-- R164: a horizontal line attempts exactly the pixels of a horizontal span, a vertical one those of a vertical span. -/
def Obligations.AxisAlignedLines : Prop :=
  (∀ x0 x1 y : Int, linePoints x0 y x1 y = hlinePoints (min x0 x1) y (|x1 - x0| + 1)) ∧
  (∀ x y0 y1 : Int, linePoints x y0 x y1 = vlinePoints x (min y0 y1) (|y1 - y0| + 1))

/-- R165: `RECT`. -/
def Obligations.RectResult : Prop :=
  ∀ (s : State) (x y w h : Word) (col : Nibble), ∃ t, exec (.rect x y w h col) s = .next t ∧
    Drawn (inColour (col != 0) (OnRect x.toInt y.toInt w.toInt h.toInt)) s t

/-- R166: `FRECT`. -/
def Obligations.FrectResult : Prop :=
  ∀ (s : State) (x y w h : Word) (col : Nibble), ∃ t, exec (.frect x y w h col) s = .next t ∧
    Drawn (inColour (col != 0) (InRect x.toInt y.toInt w.toInt h.toInt)) s t

/-- R167: `FRECT x, y, w, h, c` is the w commands `VLINE x+k, y, h, c`, in any order (where every `x+k` is an operand). -/
def Obligations.FrectEqualsVlines : Prop :=
  ∀ (s : State) (x y w h : Word) (col : Nibble) (is : List Instr), s.Inv → x.toInt + w.toInt ≤ 32768 →
    List.Perm is (vlineColumns x y h w col) → execs is s = exec (.frect x y w h col) s

/-! ### Circles and rounded rectangles (`43_circles_roundrects.md`) -/

/-- R181: the midpoint iteration. For every radius its list is the one that the circle's equation gives from (0, r), without
the running decision variable; the bounds of its pairs, that it ends by its own test (allowing more iterations changes
nothing), and the table of first values. -/
def Obligations.OctantFacts : Prop :=
  (∀ r : Int, OctantFrom r 0 r (octant r)) ∧
  (∀ r i j : Int, (i, j) ∈ octant r → 1 ≤ i ∧ i ≤ r ∧ 0 ≤ j ∧ j ≤ r) ∧
  (∀ (r : Int) (n : Nat), r.toNat ≤ n → octantLoop n (1 - r) 1 (-2 * r) 0 r = octant r) ∧
  octant 0 = [] ∧ octant 1 = [(1, 0)] ∧ octant 2 = [(1, 2), (2, 1)] ∧ octant 3 = [(1, 3), (2, 2)] ∧
  octant 4 = [(1, 4), (2, 3), (3, 3)] ∧ octant 5 = [(1, 5), (2, 5), (3, 4), (4, 3)] ∧
  octant 6 = [(1, 6), (2, 6), (3, 5), (4, 4)] ∧ octant 7 = [(1, 7), (2, 7), (3, 6), (4, 6), (5, 5)] ∧
  octant 8 = [(1, 8), (2, 8), (3, 7), (4, 7), (5, 6), (6, 5)]

/-- R182: `CIRCLE`. -/
def Obligations.CircleResult : Prop :=
  ∀ (s : State) (x0 y0 r : Word) (col : Nibble), ∃ t, exec (.circle x0 y0 r col) s = .next t ∧
    Drawn (inColour (col != 0) (OnCircle x0.toInt y0.toInt r.toInt)) s t

/-- R183: `CIRCLEQ`. -/
def Obligations.CircleqResult : Prop :=
  ∀ (s : State) (x0 y0 r : Word) (corners col : Nibble), ∃ t, exec (.circleq x0 y0 r corners col) s = .next t ∧
    Drawn (inColour (col != 0) (OnCircleQ x0.toInt y0.toInt r.toInt corners)) s t

/-- R184: `FCIRCLEQ`; a term with header bits 7:6 set stands for an illegal header (R95, R99; log 14). -/
def Obligations.FcircleqResult : Prop :=
  ∀ (s : State) (x0 y0 r delta : Word) (sides col : Nibble),
    (sides.toNat < 4 → ∃ t, exec (.fcircleq x0 y0 r delta sides col) s = .next t ∧
      Drawn (inColour (col != 0) (OnFCircleQ x0.toInt y0.toInt r.toInt sides delta.toInt)) s t) ∧
    (4 ≤ sides.toNat → exec (.fcircleq x0 y0 r delta sides col) s =
      .next { s with fault := s.fault ||| 0b0001#4, locked := true })

/-- R185: `FCIRCLE`; it covers exactly the outline of `CIRCLE` with the same operands and everything between its pixels in each
column. -/
def Obligations.FcircleResult : Prop :=
  (∀ (s : State) (x0 y0 r : Word) (col : Nibble), ∃ t, exec (.fcircle x0 y0 r col) s = .next t ∧
    Drawn (inColour (col != 0) (OnFCircle x0.toInt y0.toInt r.toInt)) s t) ∧
  (∀ x0 y0 r px py : Int,
    (px, py) ∈ fcirclePoints x0 y0 r ↔ ∃ qy, (px, qy) ∈ circlePoints x0 y0 r ∧ |py - y0| ≤ |qy - y0|)

/-- R187 with the clamp of R186: `RRECT`. -/
def Obligations.RrectResult : Prop :=
  ∀ (s : State) (x y w h r : Word) (col : Nibble), ∃ t, exec (.rrect x y w h r col) s = .next t ∧
    Drawn (inColour (col != 0) (OnRRect x.toInt y.toInt w.toInt h.toInt r.toInt)) s t

/-- R188 with the clamp of R186: `FRRECT`. -/
def Obligations.FrrectResult : Prop :=
  ∀ (s : State) (x y w h r : Word) (col : Nibble), ∃ t, exec (.frrect x y w h r col) s = .next t ∧
    Drawn (inColour (col != 0) (OnFRRect x.toInt y.toInt w.toInt h.toInt r.toInt)) s t

/-- R186, R187, R188: with the clamp every pixel of either command lies inside the rectangle, and with a radius that clamps to 0
(it is not positive, or a side is at most 1) the commands are `RECT` and `FRECT`. -/
def Obligations.RoundedRectBounds : Prop :=
  (∀ x y w h r px py : Int, (px, py) ∈ rrectPoints x y w h r → InRect x y w h px py) ∧
  (∀ x y w h r px py : Int, (px, py) ∈ frrectPoints x y w h r → InRect x y w h px py) ∧
  (∀ (s : State) (x y w h r : Word) (col : Nibble), r.toInt ≤ 0 ∨ w.toInt ≤ 1 ∨ h.toInt ≤ 1 →
    exec (.rrect x y w h r col) s = exec (.rect x y w h col) s ∧
    exec (.frrect x y w h r col) s = exec (.frect x y w h col) s)

/-! ### Triangles (`44_triangles.md`) -/

/-- R201: `TRI`. -/
def Obligations.TriResult : Prop :=
  ∀ (s : State) (x0 y0 x1 y1 x2 y2 : Word) (col : Nibble), ∃ t, exec (.tri x0 y0 x1 y1 x2 y2 col) s = .next t ∧
    Drawn (inColour (col != 0)
      (OnTri x0.toInt y0.toInt x1.toInt y1.toInt x2.toInt y2.toInt)) s t

/-- R201, R202, corner cases: the order in which the three vertices are given does not matter, for either command. -/
def Obligations.VertexOrderIrrelevant : Prop :=
  ∀ (s : State) (x0 y0 x1 y1 x2 y2 a0 b0 a1 b1 a2 b2 : Word) (col : Nibble), s.Inv →
    List.Perm [(a0, b0), (a1, b1), (a2, b2)] [(x0, y0), (x1, y1), (x2, y2)] →
    exec (.tri a0 b0 a1 b1 a2 b2 col) s = exec (.tri x0 y0 x1 y1 x2 y2 col) s ∧
    exec (.ftri a0 b0 a1 b1 a2 b2 col) s = exec (.ftri x0 y0 x1 y1 x2 y2 col) s

/-- R202: `FTRI`. The two sweeps with their running numerators draw, on each row, the span between the two edge crossings in
closed form; any order of the vertices by rising y gives it. -/
def Obligations.FtriResult : Prop :=
  (∀ (s : State) (x0 y0 x1 y1 x2 y2 : Word) (col : Nibble), ∃ t,
    exec (.ftri x0 y0 x1 y1 x2 y2 col) s = .next t ∧
    Drawn (inColour (col != 0)
      (InFTri x0.toInt y0.toInt x1.toInt y1.toInt x2.toInt y2.toInt)) s t) ∧
  (∀ (x0 y0 x1 y1 x2 y2 px py : Int) (p q r : Point), SortedVertices x0 y0 x1 y1 x2 y2 p q r →
    ((px, py) ∈ ftriPoints x0 y0 x1 y1 x2 y2 ↔ InSortedTri p q r px py))

/-- R203: a triangle with its three vertices on one row is exactly one horizontal span from the least x to the greatest,
filled or not. -/
def Obligations.FlatTriangleIsOneSpan : Prop :=
  ∀ (s : State) (x0 x1 x2 y : Word) (col : Nibble),
    (∃ t, exec (.ftri x0 y x1 y x2 y col) s = .next t ∧ Drawn (inColour (col != 0) fun px py =>
      py = y.toInt ∧ min x0.toInt (min x1.toInt x2.toInt) ≤ px ∧ px ≤ max x0.toInt (max x1.toInt x2.toInt)) s t) ∧
    (∃ t, exec (.tri x0 y x1 y x2 y col) s = .next t ∧ Drawn (inColour (col != 0) fun px py =>
      py = y.toInt ∧ min x0.toInt (min x1.toInt x2.toInt) ≤ px ∧ px ≤ max x0.toInt (max x1.toInt x2.toInt)) s t)

/-! ### Glyphs (`45_glyphs.md`) -/

/-- R211: `CHAR`. -/
def Obligations.CharResult : Prop :=
  ∀ (s : State) (x y : Word) (ch size : Byte) (bg fg : Nibble), ∃ t, exec (.char x y ch size bg fg) s = .next t ∧
    Drawn (GlyphInk s x.toInt y.toInt ch.toNat size.toNat (bg != 0) (fg != 0)) s t

/-- R213: `CHAR1` leaves the same state as `CHAR` with size 1; with a nonzero high byte of W3 it is illegal (R99; that `exec` of
the term locks is log 14). -/
def Obligations.Char1Result : Prop :=
  ∀ (s : State) (x y w3 : Word) (bg fg : Nibble),
    (w3.toNat < 256 →
      exec (.char1 x y w3 bg fg) s = exec (.char x y (w3.setWidth 8) 1 bg fg) s ∧
      ∃ t, exec (.char1 x y w3 bg fg) s = .next t ∧
        Drawn (GlyphInk s x.toInt y.toInt w3.toNat 1 (bg != 0) (fg != 0)) s t) ∧
    (256 ≤ w3.toNat → exec (.char1 x y w3 bg fg) s =
      .next { s with fault := s.fault ||| 0b0001#4, locked := true })

/-- R212: within one `CHAR` command no pixel is attempted twice. -/
def Obligations.GlyphPixelsOnce : Prop :=
  ∀ (s : State) (x y : Int) (c size : Nat) (bg fg : Bool),
    ((s.charPoints x y c size bg fg).map Prod.fst).Nodup

/-! ### Predicates (`46_predicates.md`) -/

/-- R221, R222: the predicates answer 1 exactly when the extent and the active band have a row in common, and change nothing but the
response channel; `HITGLYPH` with a nonzero high byte of W2 is illegal (R99; that `exec` of the term locks is log 14). -/
def Obligations.PredicateResults : Prop :=
  (∀ (s : State) (y h : Word), ∃ v, exec (.hitspan y h) s = .next { s with responses := s.responses ++ [v] } ∧
    (v = 0 ∨ v = 1) ∧
    (v = 1 ↔ ∃ row : Int, y.toInt ≤ row ∧ row < y.toInt + h.toInt ∧ s.cursor ≤ row ∧ row ≤ s.cursor + 7)) ∧
  (∀ (s : State) (y w2 : Word),
    (w2.toNat < 256 → ∃ v, exec (.hitglyph y w2) s = .next { s with responses := s.responses ++ [v] } ∧
      (v = 0 ∨ v = 1) ∧
      (v = 1 ↔ ∃ row : Int, y.toInt ≤ row ∧ row < y.toInt + 8 * w2.toNat ∧ s.cursor ≤ row ∧ row ≤ s.cursor + 7)) ∧
    (256 ≤ w2.toNat → exec (.hitglyph y w2) s =
      .next { s with fault := s.fault ||| 0b0001#4, locked := true }))

/-- R223, with the extents of R224: if `HITSPAN` responds 0 for an extent that contains every row of a drawing command that could be
in a band, then that command, sent with the cursor as it is, changes nothing; the same of `HITGLYPH` with `CHAR` and
`CHAR1`. -/
def Obligations.PredicateSoundness : Prop :=
  (∀ (s : State) (i : Instr) (y h : Int) (yw hw : Word), i.WellFormed → s.cursor ≤ s.build.height →
    extent i = some (y, h) →
    (∀ row : Int, y ≤ row → row < y + h → 0 ≤ row → row ≤ s.build.height + 7 →
      yw.toInt ≤ row ∧ row < yw.toInt + hw.toInt) →
    exec (.hitspan yw hw) s = .next { s with responses := s.responses ++ [0] } →
    exec i s = .next s) ∧
  (∀ (s : State) (x y : Word) (ch size : Byte) (bg fg : Nibble),
    exec (.hitglyph y (size.setWidth 16)) s = .next { s with responses := s.responses ++ [0] } →
    exec (.char x y ch size bg fg) s = .next s) ∧
  (∀ (s : State) (x y w3 : Word) (bg fg : Nibble), w3.toNat < 256 →
    exec (.hitglyph y 1) s = .next { s with responses := s.responses ++ [0] } →
    exec (.char1 x y w3 bg fg) s = .next s)

/-! ### The whole machine -/

/-- R74, R69: the state after pixel writes that give no pixel two colours depends only on the set of (x, y, colour) writes, not on
their order or on how often one is attempted. The writes of a command in one colour are such, and so are those of `CHAR` and
`CHAR1`. -/
def Obligations.DrawOrderIrrelevant : Prop :=
  (∀ (s : State) (ps qs : List (Point × Bool)), s.Inv → (∀ p c c', (p, c) ∈ ps → (p, c') ∈ ps → c = c') →
    (∀ p, p ∈ ps ↔ p ∈ qs) → s.drawAll ps = s.drawAll qs) ∧
  (∀ (s : State) (c : Bool) (ps qs : List Point), s.Inv → (∀ p, p ∈ ps ↔ p ∈ qs) → s.draw c ps = s.draw c qs) ∧
  (∀ (s : State) (x y : Int) (ch size : Nat) (bg fg : Bool) (p : Point) (c c' : Bool),
    ((p, c) ∈ s.charPoints x y ch size bg fg → (p, c') ∈ s.charPoints x y ch size bg fg → c = c') ∧
    ((p, c) ∈ s.char1Points x y ch bg fg → (p, c') ∈ s.char1Points x y ch bg fg → c = c'))

/-- R231, R36: after a command each fault bit is set exactly when it was set before or the command raises it: the table of R231
for all four faults and all 26 commands. In states that no run reaches the model's choices are in it: `FLUSH` raises FLUSHX
for every cursor from HEIGHT up (log 18; R231 says at HEIGHT), and `exec` of an ill-formed term raises ILLEGAL as the decoder does
on its words (log 14). -/
def Obligations.FaultsExactlyWhenRaised : Prop :=
  ∀ (s t : State) (i : Instr) (f : FaultBit), exec i s = .next t →
    (t.fault.getLsbD f.code = true ↔ s.fault.getLsbD f.code = true ∨ Raises i s f)

/-- R39, the column of writers: which commands may write which state. A drawing command writes `FAULT` with the bounds check off
only; an ill-formed term stands for what the decoder does (log 14). -/
def Obligations.OnlyListedCommandsWrite : Prop :=
  ∀ (s t : State) (i : Instr), exec i s = .next t →
    ((∀ rate, i ≠ .setrate rate) → t.frameRate = s.frameRate ∧ t.framePeriod = s.framePeriod) ∧
    (i ≠ .poll → t.nextFrameStart = s.nextFrameStart ∧ t.lastFrameStart = s.lastFrameStart ∧
      t.lastFrameDuration = s.lastFrameDuration ∧ t.frameCounter = s.frameCounter ∧
      t.pendingFlush = s.pendingFlush ∧ t.sleeping = s.sleeping) ∧
    (i ≠ .poll → i ≠ .flush → t.cursor = s.cursor) ∧
    (isDrawing i = false → (∀ col, i ≠ .clear col) → t.buf = s.buf) ∧
    ((∀ rate, i ≠ .setrate rate) → i ≠ .load → (∀ n, i ≠ .everyn n) → i ≠ .flush →
      (isDrawing i = true → s.build.boundsCheck = true) → i.WellFormed → t.fault = s.fault) ∧
    (i ≠ .flush → t.paints = s.paints) ∧
    (responds i = false → t.responses = s.responses) ∧
    (i.WellFormed → t.locked = s.locked) ∧
    t.tickCount = s.tickCount ∧ t.build = s.build ∧ t.held = s.held ∧ t.channel = s.channel ∧
    t.schedule = s.schedule ∧ t.responsesRead = s.responsesRead ∧ t.transportReady = s.transportReady ∧
    t.resets = s.resets

/-- R101: each of the seven responding commands produces one response word of RESPW bits, at its completion, and no other command
produces any; a `POLL` that suspends responds 0 at the tick event that wakes it. -/
def Obligations.OneResponsePerRespondingCommand : Prop :=
  ∀ (s t : State) (i : Instr), i.WellFormed → s.sleeping = false → exec i s = .next t →
    (responds i = false → t.sleeping = false ∧ t.responses = s.responses) ∧
    (responds i = true →
      (t.sleeping = false ∧ ∃ v, v < 2 ^ s.build.respw ∧ t.responses = s.responses ++ [v]) ∨
      (i = .poll ∧ t.sleeping = true ∧ t.responses = s.responses ∧ t.tick.responses = s.responses ++ [0]))

/-- R42 (b): the content of `BUF` shows only through the bytes of paint events. Two machines that differ only there stay alike
in everything else, whatever the agents do and for however long. -/
def Obligations.BufShowsOnlyInPaintEvents : Prop :=
  ∀ (k : Nat) (s₁ s₂ t₁ t₂ : State), hideBuf s₁ = hideBuf s₂ →
    Sys2Proof.core.run k s₁ = .next t₁ → Sys2Proof.core.run k s₂ = .next t₂ → hideBuf t₁ = hideBuf t₂
end

