-- ==== Sys2Proof/Laws/State.lean ====
section
/-! SUPPORT. What each named update of the state does to each field: one lemma per field per update, so that no proof
unfolds a record update. -/

namespace Sys2Proof.Machine

variable (s : State)

/-! `State.raise`. -/

@[simp] theorem State.raise_build (f : FaultBit) : (s.raise f).build = s.build := rfl
@[simp] theorem State.raise_buf (f : FaultBit) : (s.raise f).buf = s.buf := rfl
@[simp] theorem State.raise_cursor (f : FaultBit) : (s.raise f).cursor = s.cursor := rfl
@[simp] theorem State.raise_frameRate (f : FaultBit) : (s.raise f).frameRate = s.frameRate := rfl
@[simp] theorem State.raise_framePeriod (f : FaultBit) : (s.raise f).framePeriod = s.framePeriod := rfl
@[simp] theorem State.raise_nextFrameStart (f : FaultBit) : (s.raise f).nextFrameStart = s.nextFrameStart := rfl
@[simp] theorem State.raise_lastFrameStart (f : FaultBit) : (s.raise f).lastFrameStart = s.lastFrameStart := rfl
@[simp] theorem State.raise_lastFrameDuration (f : FaultBit) : (s.raise f).lastFrameDuration = s.lastFrameDuration := rfl
@[simp] theorem State.raise_frameCounter (f : FaultBit) : (s.raise f).frameCounter = s.frameCounter := rfl
@[simp] theorem State.raise_pendingFlush (f : FaultBit) : (s.raise f).pendingFlush = s.pendingFlush := rfl
@[simp] theorem State.raise_tickCount (f : FaultBit) : (s.raise f).tickCount = s.tickCount := rfl
@[simp] theorem State.raise_fault (f : FaultBit) : (s.raise f).fault = s.fault ||| f.bit := rfl
@[simp] theorem State.raise_locked (f : FaultBit) : (s.raise f).locked = s.locked := rfl
@[simp] theorem State.raise_sleeping (f : FaultBit) : (s.raise f).sleeping = s.sleeping := rfl
@[simp] theorem State.raise_held (f : FaultBit) : (s.raise f).held = s.held := rfl
@[simp] theorem State.raise_channel (f : FaultBit) : (s.raise f).channel = s.channel := rfl
@[simp] theorem State.raise_responses (f : FaultBit) : (s.raise f).responses = s.responses := rfl
@[simp] theorem State.raise_responsesRead (f : FaultBit) : (s.raise f).responsesRead = s.responsesRead := rfl
@[simp] theorem State.raise_paints (f : FaultBit) : (s.raise f).paints = s.paints := rfl
@[simp] theorem State.raise_transportReady (f : FaultBit) : (s.raise f).transportReady = s.transportReady := rfl
@[simp] theorem State.raise_schedule (f : FaultBit) : (s.raise f).schedule = s.schedule := rfl
@[simp] theorem State.raise_resets (f : FaultBit) : (s.raise f).resets = s.resets := rfl

/-! `State.lock`. -/

@[simp] theorem State.lock_build : (s.lock).build = s.build := rfl
@[simp] theorem State.lock_buf : (s.lock).buf = s.buf := rfl
@[simp] theorem State.lock_cursor : (s.lock).cursor = s.cursor := rfl
@[simp] theorem State.lock_frameRate : (s.lock).frameRate = s.frameRate := rfl
@[simp] theorem State.lock_framePeriod : (s.lock).framePeriod = s.framePeriod := rfl
@[simp] theorem State.lock_nextFrameStart : (s.lock).nextFrameStart = s.nextFrameStart := rfl
@[simp] theorem State.lock_lastFrameStart : (s.lock).lastFrameStart = s.lastFrameStart := rfl
@[simp] theorem State.lock_lastFrameDuration : (s.lock).lastFrameDuration = s.lastFrameDuration := rfl
@[simp] theorem State.lock_frameCounter : (s.lock).frameCounter = s.frameCounter := rfl
@[simp] theorem State.lock_pendingFlush : (s.lock).pendingFlush = s.pendingFlush := rfl
@[simp] theorem State.lock_tickCount : (s.lock).tickCount = s.tickCount := rfl
@[simp] theorem State.lock_fault : (s.lock).fault = s.fault ||| FaultBit.illegal.bit := rfl
@[simp] theorem State.lock_locked : (s.lock).locked = true := rfl
@[simp] theorem State.lock_sleeping : (s.lock).sleeping = s.sleeping := rfl
@[simp] theorem State.lock_held : (s.lock).held = s.held := rfl
@[simp] theorem State.lock_channel : (s.lock).channel = s.channel := rfl
@[simp] theorem State.lock_responses : (s.lock).responses = s.responses := rfl
@[simp] theorem State.lock_responsesRead : (s.lock).responsesRead = s.responsesRead := rfl
@[simp] theorem State.lock_paints : (s.lock).paints = s.paints := rfl
@[simp] theorem State.lock_transportReady : (s.lock).transportReady = s.transportReady := rfl
@[simp] theorem State.lock_schedule : (s.lock).schedule = s.schedule := rfl
@[simp] theorem State.lock_resets : (s.lock).resets = s.resets := rfl

/-! `State.respond`. -/

@[simp] theorem State.respond_build (v : Nat) : (s.respond v).build = s.build := rfl
@[simp] theorem State.respond_buf (v : Nat) : (s.respond v).buf = s.buf := rfl
@[simp] theorem State.respond_cursor (v : Nat) : (s.respond v).cursor = s.cursor := rfl
@[simp] theorem State.respond_frameRate (v : Nat) : (s.respond v).frameRate = s.frameRate := rfl
@[simp] theorem State.respond_framePeriod (v : Nat) : (s.respond v).framePeriod = s.framePeriod := rfl
@[simp] theorem State.respond_nextFrameStart (v : Nat) : (s.respond v).nextFrameStart = s.nextFrameStart := rfl
@[simp] theorem State.respond_lastFrameStart (v : Nat) : (s.respond v).lastFrameStart = s.lastFrameStart := rfl
@[simp] theorem State.respond_lastFrameDuration (v : Nat) : (s.respond v).lastFrameDuration = s.lastFrameDuration := rfl
@[simp] theorem State.respond_frameCounter (v : Nat) : (s.respond v).frameCounter = s.frameCounter := rfl
@[simp] theorem State.respond_pendingFlush (v : Nat) : (s.respond v).pendingFlush = s.pendingFlush := rfl
@[simp] theorem State.respond_tickCount (v : Nat) : (s.respond v).tickCount = s.tickCount := rfl
@[simp] theorem State.respond_fault (v : Nat) : (s.respond v).fault = s.fault := rfl
@[simp] theorem State.respond_locked (v : Nat) : (s.respond v).locked = s.locked := rfl
@[simp] theorem State.respond_sleeping (v : Nat) : (s.respond v).sleeping = s.sleeping := rfl
@[simp] theorem State.respond_held (v : Nat) : (s.respond v).held = s.held := rfl
@[simp] theorem State.respond_channel (v : Nat) : (s.respond v).channel = s.channel := rfl
@[simp] theorem State.respond_responses (v : Nat) : (s.respond v).responses = s.responses ++ [v % 2 ^ s.build.respw] := rfl
@[simp] theorem State.respond_responsesRead (v : Nat) : (s.respond v).responsesRead = s.responsesRead := rfl
@[simp] theorem State.respond_paints (v : Nat) : (s.respond v).paints = s.paints := rfl
@[simp] theorem State.respond_transportReady (v : Nat) : (s.respond v).transportReady = s.transportReady := rfl
@[simp] theorem State.respond_schedule (v : Nat) : (s.respond v).schedule = s.schedule := rfl
@[simp] theorem State.respond_resets (v : Nat) : (s.respond v).resets = s.resets := rfl

/-! `State.paint`. -/

@[simp] theorem State.paint_build : (s.paint).build = s.build := rfl
@[simp] theorem State.paint_buf : (s.paint).buf = s.buf := rfl
@[simp] theorem State.paint_cursor : (s.paint).cursor = s.cursor := rfl
@[simp] theorem State.paint_frameRate : (s.paint).frameRate = s.frameRate := rfl
@[simp] theorem State.paint_framePeriod : (s.paint).framePeriod = s.framePeriod := rfl
@[simp] theorem State.paint_nextFrameStart : (s.paint).nextFrameStart = s.nextFrameStart := rfl
@[simp] theorem State.paint_lastFrameStart : (s.paint).lastFrameStart = s.lastFrameStart := rfl
@[simp] theorem State.paint_lastFrameDuration : (s.paint).lastFrameDuration = s.lastFrameDuration := rfl
@[simp] theorem State.paint_frameCounter : (s.paint).frameCounter = s.frameCounter := rfl
@[simp] theorem State.paint_pendingFlush : (s.paint).pendingFlush = s.pendingFlush := rfl
@[simp] theorem State.paint_tickCount : (s.paint).tickCount = s.tickCount := rfl
@[simp] theorem State.paint_fault : (s.paint).fault = s.fault := rfl
@[simp] theorem State.paint_locked : (s.paint).locked = s.locked := rfl
@[simp] theorem State.paint_sleeping : (s.paint).sleeping = s.sleeping := rfl
@[simp] theorem State.paint_held : (s.paint).held = s.held := rfl
@[simp] theorem State.paint_channel : (s.paint).channel = s.channel := rfl
@[simp] theorem State.paint_responses : (s.paint).responses = s.responses := rfl
@[simp] theorem State.paint_responsesRead : (s.paint).responsesRead = s.responsesRead := rfl
@[simp] theorem State.paint_paints : (s.paint).paints = s.paints ++ [{ cursor := s.cursor, bytes := s.bytes }] := rfl
@[simp] theorem State.paint_transportReady : (s.paint).transportReady = s.transportReady := rfl
@[simp] theorem State.paint_schedule : (s.paint).schedule = s.schedule := rfl
@[simp] theorem State.paint_resets : (s.paint).resets = s.resets := rfl

/-! `State.setCursor`. -/

@[simp] theorem State.setCursor_build (v : Nat) : (s.setCursor v).build = s.build := rfl
@[simp] theorem State.setCursor_buf (v : Nat) : (s.setCursor v).buf = s.buf := rfl
@[simp] theorem State.setCursor_cursor (v : Nat) : (s.setCursor v).cursor = v % 2 ^ s.build.curw := rfl
@[simp] theorem State.setCursor_frameRate (v : Nat) : (s.setCursor v).frameRate = s.frameRate := rfl
@[simp] theorem State.setCursor_framePeriod (v : Nat) : (s.setCursor v).framePeriod = s.framePeriod := rfl
@[simp] theorem State.setCursor_nextFrameStart (v : Nat) : (s.setCursor v).nextFrameStart = s.nextFrameStart := rfl
@[simp] theorem State.setCursor_lastFrameStart (v : Nat) : (s.setCursor v).lastFrameStart = s.lastFrameStart := rfl
@[simp] theorem State.setCursor_lastFrameDuration (v : Nat) : (s.setCursor v).lastFrameDuration = s.lastFrameDuration := rfl
@[simp] theorem State.setCursor_frameCounter (v : Nat) : (s.setCursor v).frameCounter = s.frameCounter := rfl
@[simp] theorem State.setCursor_pendingFlush (v : Nat) : (s.setCursor v).pendingFlush = s.pendingFlush := rfl
@[simp] theorem State.setCursor_tickCount (v : Nat) : (s.setCursor v).tickCount = s.tickCount := rfl
@[simp] theorem State.setCursor_fault (v : Nat) : (s.setCursor v).fault = s.fault := rfl
@[simp] theorem State.setCursor_locked (v : Nat) : (s.setCursor v).locked = s.locked := rfl
@[simp] theorem State.setCursor_sleeping (v : Nat) : (s.setCursor v).sleeping = s.sleeping := rfl
@[simp] theorem State.setCursor_held (v : Nat) : (s.setCursor v).held = s.held := rfl
@[simp] theorem State.setCursor_channel (v : Nat) : (s.setCursor v).channel = s.channel := rfl
@[simp] theorem State.setCursor_responses (v : Nat) : (s.setCursor v).responses = s.responses := rfl
@[simp] theorem State.setCursor_responsesRead (v : Nat) : (s.setCursor v).responsesRead = s.responsesRead := rfl
@[simp] theorem State.setCursor_paints (v : Nat) : (s.setCursor v).paints = s.paints := rfl
@[simp] theorem State.setCursor_transportReady (v : Nat) : (s.setCursor v).transportReady = s.transportReady := rfl
@[simp] theorem State.setCursor_schedule (v : Nat) : (s.setCursor v).schedule = s.schedule := rfl
@[simp] theorem State.setCursor_resets (v : Nat) : (s.setCursor v).resets = s.resets := rfl

/-! `State.setColumn`. -/

@[simp] theorem State.setColumn_build (x : Nat) (v : Byte) : (s.setColumn x v).build = s.build := rfl
@[simp] theorem State.setColumn_buf (x : Nat) (v : Byte) : (s.setColumn x v).buf = Memory.write s.buf x v := rfl
@[simp] theorem State.setColumn_cursor (x : Nat) (v : Byte) : (s.setColumn x v).cursor = s.cursor := rfl
@[simp] theorem State.setColumn_frameRate (x : Nat) (v : Byte) : (s.setColumn x v).frameRate = s.frameRate := rfl
@[simp] theorem State.setColumn_framePeriod (x : Nat) (v : Byte) : (s.setColumn x v).framePeriod = s.framePeriod := rfl
@[simp] theorem State.setColumn_nextFrameStart (x : Nat) (v : Byte) : (s.setColumn x v).nextFrameStart = s.nextFrameStart := rfl
@[simp] theorem State.setColumn_lastFrameStart (x : Nat) (v : Byte) : (s.setColumn x v).lastFrameStart = s.lastFrameStart := rfl
@[simp] theorem State.setColumn_lastFrameDuration (x : Nat) (v : Byte) : (s.setColumn x v).lastFrameDuration = s.lastFrameDuration := rfl
@[simp] theorem State.setColumn_frameCounter (x : Nat) (v : Byte) : (s.setColumn x v).frameCounter = s.frameCounter := rfl
@[simp] theorem State.setColumn_pendingFlush (x : Nat) (v : Byte) : (s.setColumn x v).pendingFlush = s.pendingFlush := rfl
@[simp] theorem State.setColumn_tickCount (x : Nat) (v : Byte) : (s.setColumn x v).tickCount = s.tickCount := rfl
@[simp] theorem State.setColumn_fault (x : Nat) (v : Byte) : (s.setColumn x v).fault = s.fault := rfl
@[simp] theorem State.setColumn_locked (x : Nat) (v : Byte) : (s.setColumn x v).locked = s.locked := rfl
@[simp] theorem State.setColumn_sleeping (x : Nat) (v : Byte) : (s.setColumn x v).sleeping = s.sleeping := rfl
@[simp] theorem State.setColumn_held (x : Nat) (v : Byte) : (s.setColumn x v).held = s.held := rfl
@[simp] theorem State.setColumn_channel (x : Nat) (v : Byte) : (s.setColumn x v).channel = s.channel := rfl
@[simp] theorem State.setColumn_responses (x : Nat) (v : Byte) : (s.setColumn x v).responses = s.responses := rfl
@[simp] theorem State.setColumn_responsesRead (x : Nat) (v : Byte) : (s.setColumn x v).responsesRead = s.responsesRead := rfl
@[simp] theorem State.setColumn_paints (x : Nat) (v : Byte) : (s.setColumn x v).paints = s.paints := rfl
@[simp] theorem State.setColumn_transportReady (x : Nat) (v : Byte) : (s.setColumn x v).transportReady = s.transportReady := rfl
@[simp] theorem State.setColumn_schedule (x : Nat) (v : Byte) : (s.setColumn x v).schedule = s.schedule := rfl
@[simp] theorem State.setColumn_resets (x : Nat) (v : Byte) : (s.setColumn x v).resets = s.resets := rfl

/-! `State.grant`. -/

@[simp] theorem State.grant_build : (s.grant).build = s.build := rfl
@[simp] theorem State.grant_buf : (s.grant).buf = s.buf := rfl
@[simp] theorem State.grant_cursor : (s.grant).cursor = 0 % 2 ^ s.build.curw := rfl
@[simp] theorem State.grant_frameRate : (s.grant).frameRate = s.frameRate := rfl
@[simp] theorem State.grant_framePeriod : (s.grant).framePeriod = s.framePeriod := rfl
@[simp] theorem State.grant_nextFrameStart : (s.grant).nextFrameStart = s.tickValue (s.tickCount + s.framePeriod.toNat) := rfl
@[simp] theorem State.grant_lastFrameStart : (s.grant).lastFrameStart = s.tickValue s.tickCount := rfl
@[simp] theorem State.grant_lastFrameDuration : (s.grant).lastFrameDuration = s.lastFrameDuration := rfl
@[simp] theorem State.grant_frameCounter : (s.grant).frameCounter = s.frameCounter := rfl
@[simp] theorem State.grant_pendingFlush : (s.grant).pendingFlush = true := rfl
@[simp] theorem State.grant_tickCount : (s.grant).tickCount = s.tickCount := rfl
@[simp] theorem State.grant_fault : (s.grant).fault = s.fault := rfl
@[simp] theorem State.grant_locked : (s.grant).locked = s.locked := rfl
@[simp] theorem State.grant_sleeping : (s.grant).sleeping = s.sleeping := rfl
@[simp] theorem State.grant_held : (s.grant).held = s.held := rfl
@[simp] theorem State.grant_channel : (s.grant).channel = s.channel := rfl
@[simp] theorem State.grant_responses : (s.grant).responses = s.responses := rfl
@[simp] theorem State.grant_responsesRead : (s.grant).responsesRead = s.responsesRead := rfl
@[simp] theorem State.grant_paints : (s.grant).paints = s.paints := rfl
@[simp] theorem State.grant_transportReady : (s.grant).transportReady = s.transportReady := rfl
@[simp] theorem State.grant_schedule : (s.grant).schedule = s.schedule := rfl
@[simp] theorem State.grant_resets : (s.grant).resets = s.resets := rfl

/-! `State.idleWait`. -/

@[simp] theorem State.idleWait_build : (s.idleWait).build = s.build := rfl
@[simp] theorem State.idleWait_buf : (s.idleWait).buf = s.buf := rfl
@[simp] theorem State.idleWait_cursor : (s.idleWait).cursor = s.cursor := rfl
@[simp] theorem State.idleWait_frameRate : (s.idleWait).frameRate = s.frameRate := rfl
@[simp] theorem State.idleWait_framePeriod : (s.idleWait).framePeriod = s.framePeriod := rfl
@[simp] theorem State.idleWait_nextFrameStart : (s.idleWait).nextFrameStart = s.nextFrameStart := rfl
@[simp] theorem State.idleWait_lastFrameStart : (s.idleWait).lastFrameStart = s.lastFrameStart := rfl
@[simp] theorem State.idleWait_lastFrameDuration : (s.idleWait).lastFrameDuration = s.lastFrameDuration := rfl
@[simp] theorem State.idleWait_frameCounter : (s.idleWait).frameCounter = s.frameCounter := rfl
@[simp] theorem State.idleWait_pendingFlush : (s.idleWait).pendingFlush = s.pendingFlush := rfl
@[simp] theorem State.idleWait_tickCount : (s.idleWait).tickCount = s.tickCount := rfl
@[simp] theorem State.idleWait_fault : (s.idleWait).fault = s.fault := rfl
@[simp] theorem State.idleWait_locked : (s.idleWait).locked = s.locked := rfl
@[simp] theorem State.idleWait_sleeping : (s.idleWait).sleeping = true := rfl
@[simp] theorem State.idleWait_held : (s.idleWait).held = s.held := rfl
@[simp] theorem State.idleWait_channel : (s.idleWait).channel = s.channel := rfl
@[simp] theorem State.idleWait_responses : (s.idleWait).responses = s.responses := rfl
@[simp] theorem State.idleWait_responsesRead : (s.idleWait).responsesRead = s.responsesRead := rfl
@[simp] theorem State.idleWait_paints : (s.idleWait).paints = s.paints := rfl
@[simp] theorem State.idleWait_transportReady : (s.idleWait).transportReady = s.transportReady := rfl
@[simp] theorem State.idleWait_schedule : (s.idleWait).schedule = s.schedule := rfl
@[simp] theorem State.idleWait_resets : (s.idleWait).resets = s.resets := rfl

/-! `State.discardWord`. -/

@[simp] theorem State.discardWord_build : (s.discardWord).build = s.build := rfl
@[simp] theorem State.discardWord_buf : (s.discardWord).buf = s.buf := rfl
@[simp] theorem State.discardWord_cursor : (s.discardWord).cursor = s.cursor := rfl
@[simp] theorem State.discardWord_frameRate : (s.discardWord).frameRate = s.frameRate := rfl
@[simp] theorem State.discardWord_framePeriod : (s.discardWord).framePeriod = s.framePeriod := rfl
@[simp] theorem State.discardWord_nextFrameStart : (s.discardWord).nextFrameStart = s.nextFrameStart := rfl
@[simp] theorem State.discardWord_lastFrameStart : (s.discardWord).lastFrameStart = s.lastFrameStart := rfl
@[simp] theorem State.discardWord_lastFrameDuration : (s.discardWord).lastFrameDuration = s.lastFrameDuration := rfl
@[simp] theorem State.discardWord_frameCounter : (s.discardWord).frameCounter = s.frameCounter := rfl
@[simp] theorem State.discardWord_pendingFlush : (s.discardWord).pendingFlush = s.pendingFlush := rfl
@[simp] theorem State.discardWord_tickCount : (s.discardWord).tickCount = s.tickCount := rfl
@[simp] theorem State.discardWord_fault : (s.discardWord).fault = s.fault := rfl
@[simp] theorem State.discardWord_locked : (s.discardWord).locked = s.locked := rfl
@[simp] theorem State.discardWord_sleeping : (s.discardWord).sleeping = s.sleeping := rfl
@[simp] theorem State.discardWord_held : (s.discardWord).held = s.held := rfl
@[simp] theorem State.discardWord_channel : (s.discardWord).channel = s.channel.drop 1 := rfl
@[simp] theorem State.discardWord_responses : (s.discardWord).responses = s.responses := rfl
@[simp] theorem State.discardWord_responsesRead : (s.discardWord).responsesRead = s.responsesRead := rfl
@[simp] theorem State.discardWord_paints : (s.discardWord).paints = s.paints := rfl
@[simp] theorem State.discardWord_transportReady : (s.discardWord).transportReady = s.transportReady := rfl
@[simp] theorem State.discardWord_schedule : (s.discardWord).schedule = s.schedule := rfl
@[simp] theorem State.discardWord_resets : (s.discardWord).resets = s.resets := rfl

/-! `State.accepted`. -/

@[simp] theorem State.accepted_build (rest : List Word) : (s.accepted rest).build = s.build := rfl
@[simp] theorem State.accepted_buf (rest : List Word) : (s.accepted rest).buf = s.buf := rfl
@[simp] theorem State.accepted_cursor (rest : List Word) : (s.accepted rest).cursor = s.cursor := rfl
@[simp] theorem State.accepted_frameRate (rest : List Word) : (s.accepted rest).frameRate = s.frameRate := rfl
@[simp] theorem State.accepted_framePeriod (rest : List Word) : (s.accepted rest).framePeriod = s.framePeriod := rfl
@[simp] theorem State.accepted_nextFrameStart (rest : List Word) : (s.accepted rest).nextFrameStart = s.nextFrameStart := rfl
@[simp] theorem State.accepted_lastFrameStart (rest : List Word) : (s.accepted rest).lastFrameStart = s.lastFrameStart := rfl
@[simp] theorem State.accepted_lastFrameDuration (rest : List Word) : (s.accepted rest).lastFrameDuration = s.lastFrameDuration := rfl
@[simp] theorem State.accepted_frameCounter (rest : List Word) : (s.accepted rest).frameCounter = s.frameCounter := rfl
@[simp] theorem State.accepted_pendingFlush (rest : List Word) : (s.accepted rest).pendingFlush = s.pendingFlush := rfl
@[simp] theorem State.accepted_tickCount (rest : List Word) : (s.accepted rest).tickCount = s.tickCount := rfl
@[simp] theorem State.accepted_fault (rest : List Word) : (s.accepted rest).fault = s.fault := rfl
@[simp] theorem State.accepted_locked (rest : List Word) : (s.accepted rest).locked = s.locked := rfl
@[simp] theorem State.accepted_sleeping (rest : List Word) : (s.accepted rest).sleeping = s.sleeping := rfl
@[simp] theorem State.accepted_held (rest : List Word) : (s.accepted rest).held = [] := rfl
@[simp] theorem State.accepted_channel (rest : List Word) : (s.accepted rest).channel = rest := rfl
@[simp] theorem State.accepted_responses (rest : List Word) : (s.accepted rest).responses = s.responses := rfl
@[simp] theorem State.accepted_responsesRead (rest : List Word) : (s.accepted rest).responsesRead = s.responsesRead := rfl
@[simp] theorem State.accepted_paints (rest : List Word) : (s.accepted rest).paints = s.paints := rfl
@[simp] theorem State.accepted_transportReady (rest : List Word) : (s.accepted rest).transportReady = s.transportReady := rfl
@[simp] theorem State.accepted_schedule (rest : List Word) : (s.accepted rest).schedule = s.schedule := rfl
@[simp] theorem State.accepted_resets (rest : List Word) : (s.accepted rest).resets = s.resets := rfl

/-! `State.hostSend`. -/

@[simp] theorem State.hostSend_build (w : Word) : (s.hostSend w).build = s.build := rfl
@[simp] theorem State.hostSend_buf (w : Word) : (s.hostSend w).buf = s.buf := rfl
@[simp] theorem State.hostSend_cursor (w : Word) : (s.hostSend w).cursor = s.cursor := rfl
@[simp] theorem State.hostSend_frameRate (w : Word) : (s.hostSend w).frameRate = s.frameRate := rfl
@[simp] theorem State.hostSend_framePeriod (w : Word) : (s.hostSend w).framePeriod = s.framePeriod := rfl
@[simp] theorem State.hostSend_nextFrameStart (w : Word) : (s.hostSend w).nextFrameStart = s.nextFrameStart := rfl
@[simp] theorem State.hostSend_lastFrameStart (w : Word) : (s.hostSend w).lastFrameStart = s.lastFrameStart := rfl
@[simp] theorem State.hostSend_lastFrameDuration (w : Word) : (s.hostSend w).lastFrameDuration = s.lastFrameDuration := rfl
@[simp] theorem State.hostSend_frameCounter (w : Word) : (s.hostSend w).frameCounter = s.frameCounter := rfl
@[simp] theorem State.hostSend_pendingFlush (w : Word) : (s.hostSend w).pendingFlush = s.pendingFlush := rfl
@[simp] theorem State.hostSend_tickCount (w : Word) : (s.hostSend w).tickCount = s.tickCount := rfl
@[simp] theorem State.hostSend_fault (w : Word) : (s.hostSend w).fault = s.fault := rfl
@[simp] theorem State.hostSend_locked (w : Word) : (s.hostSend w).locked = s.locked := rfl
@[simp] theorem State.hostSend_sleeping (w : Word) : (s.hostSend w).sleeping = s.sleeping := rfl
@[simp] theorem State.hostSend_held (w : Word) : (s.hostSend w).held = s.held := rfl
@[simp] theorem State.hostSend_channel (w : Word) : (s.hostSend w).channel = s.channel ++ [w] := rfl
@[simp] theorem State.hostSend_responses (w : Word) : (s.hostSend w).responses = s.responses := rfl
@[simp] theorem State.hostSend_responsesRead (w : Word) : (s.hostSend w).responsesRead = s.responsesRead := rfl
@[simp] theorem State.hostSend_paints (w : Word) : (s.hostSend w).paints = s.paints := rfl
@[simp] theorem State.hostSend_transportReady (w : Word) : (s.hostSend w).transportReady = s.transportReady := rfl
@[simp] theorem State.hostSend_schedule (w : Word) : (s.hostSend w).schedule = s.schedule := rfl
@[simp] theorem State.hostSend_resets (w : Word) : (s.hostSend w).resets = s.resets := rfl

/-! `State.hostRead`. -/

@[simp] theorem State.hostRead_build : (s.hostRead).build = s.build := rfl
@[simp] theorem State.hostRead_buf : (s.hostRead).buf = s.buf := rfl
@[simp] theorem State.hostRead_cursor : (s.hostRead).cursor = s.cursor := rfl
@[simp] theorem State.hostRead_frameRate : (s.hostRead).frameRate = s.frameRate := rfl
@[simp] theorem State.hostRead_framePeriod : (s.hostRead).framePeriod = s.framePeriod := rfl
@[simp] theorem State.hostRead_nextFrameStart : (s.hostRead).nextFrameStart = s.nextFrameStart := rfl
@[simp] theorem State.hostRead_lastFrameStart : (s.hostRead).lastFrameStart = s.lastFrameStart := rfl
@[simp] theorem State.hostRead_lastFrameDuration : (s.hostRead).lastFrameDuration = s.lastFrameDuration := rfl
@[simp] theorem State.hostRead_frameCounter : (s.hostRead).frameCounter = s.frameCounter := rfl
@[simp] theorem State.hostRead_pendingFlush : (s.hostRead).pendingFlush = s.pendingFlush := rfl
@[simp] theorem State.hostRead_tickCount : (s.hostRead).tickCount = s.tickCount := rfl
@[simp] theorem State.hostRead_fault : (s.hostRead).fault = s.fault := rfl
@[simp] theorem State.hostRead_locked : (s.hostRead).locked = s.locked := rfl
@[simp] theorem State.hostRead_sleeping : (s.hostRead).sleeping = s.sleeping := rfl
@[simp] theorem State.hostRead_held : (s.hostRead).held = s.held := rfl
@[simp] theorem State.hostRead_channel : (s.hostRead).channel = s.channel := rfl
@[simp] theorem State.hostRead_responses : (s.hostRead).responses = s.responses := rfl
@[simp] theorem State.hostRead_responsesRead : (s.hostRead).responsesRead = min (s.responsesRead + 1) s.responses.length := rfl
@[simp] theorem State.hostRead_paints : (s.hostRead).paints = s.paints := rfl
@[simp] theorem State.hostRead_transportReady : (s.hostRead).transportReady = s.transportReady := rfl
@[simp] theorem State.hostRead_schedule : (s.hostRead).schedule = s.schedule := rfl
@[simp] theorem State.hostRead_resets : (s.hostRead).resets = s.resets := rfl

/-! `State.doReset`. -/

@[simp] theorem State.doReset_build : (s.doReset).build = s.build := rfl
@[simp] theorem State.doReset_buf : (s.doReset).buf = [] := rfl
@[simp] theorem State.doReset_cursor : (s.doReset).cursor = 0 := rfl
@[simp] theorem State.doReset_frameRate : (s.doReset).frameRate = 0 := rfl
@[simp] theorem State.doReset_framePeriod : (s.doReset).framePeriod = 0 := rfl
@[simp] theorem State.doReset_nextFrameStart : (s.doReset).nextFrameStart = 0 := rfl
@[simp] theorem State.doReset_lastFrameStart : (s.doReset).lastFrameStart = 0 := rfl
@[simp] theorem State.doReset_lastFrameDuration : (s.doReset).lastFrameDuration = 0 := rfl
@[simp] theorem State.doReset_frameCounter : (s.doReset).frameCounter = 0 := rfl
@[simp] theorem State.doReset_pendingFlush : (s.doReset).pendingFlush = false := rfl
@[simp] theorem State.doReset_tickCount : (s.doReset).tickCount = 0 := rfl
@[simp] theorem State.doReset_fault : (s.doReset).fault = 0 := rfl
@[simp] theorem State.doReset_locked : (s.doReset).locked = false := rfl
@[simp] theorem State.doReset_sleeping : (s.doReset).sleeping = false := rfl
@[simp] theorem State.doReset_held : (s.doReset).held = [] := rfl
@[simp] theorem State.doReset_channel : (s.doReset).channel = [] := rfl
@[simp] theorem State.doReset_responses : (s.doReset).responses = s.responses := rfl
@[simp] theorem State.doReset_responsesRead : (s.doReset).responsesRead = s.responsesRead := rfl
@[simp] theorem State.doReset_paints : (s.doReset).paints = s.paints := rfl
@[simp] theorem State.doReset_transportReady : (s.doReset).transportReady = s.transportReady := rfl
@[simp] theorem State.doReset_schedule : (s.doReset).schedule = s.schedule := rfl
@[simp] theorem State.doReset_resets : (s.doReset).resets = s.resets + 1 := rfl

/-! `State.withCommand`. -/

@[simp] theorem State.withCommand_build (ws : List Word) : (s.withCommand ws).build = s.build := rfl
@[simp] theorem State.withCommand_buf (ws : List Word) : (s.withCommand ws).buf = s.buf := rfl
@[simp] theorem State.withCommand_cursor (ws : List Word) : (s.withCommand ws).cursor = s.cursor := rfl
@[simp] theorem State.withCommand_frameRate (ws : List Word) : (s.withCommand ws).frameRate = s.frameRate := rfl
@[simp] theorem State.withCommand_framePeriod (ws : List Word) : (s.withCommand ws).framePeriod = s.framePeriod := rfl
@[simp] theorem State.withCommand_nextFrameStart (ws : List Word) : (s.withCommand ws).nextFrameStart = s.nextFrameStart := rfl
@[simp] theorem State.withCommand_lastFrameStart (ws : List Word) : (s.withCommand ws).lastFrameStart = s.lastFrameStart := rfl
@[simp] theorem State.withCommand_lastFrameDuration (ws : List Word) : (s.withCommand ws).lastFrameDuration = s.lastFrameDuration := rfl
@[simp] theorem State.withCommand_frameCounter (ws : List Word) : (s.withCommand ws).frameCounter = s.frameCounter := rfl
@[simp] theorem State.withCommand_pendingFlush (ws : List Word) : (s.withCommand ws).pendingFlush = s.pendingFlush := rfl
@[simp] theorem State.withCommand_tickCount (ws : List Word) : (s.withCommand ws).tickCount = s.tickCount := rfl
@[simp] theorem State.withCommand_fault (ws : List Word) : (s.withCommand ws).fault = s.fault := rfl
@[simp] theorem State.withCommand_locked (ws : List Word) : (s.withCommand ws).locked = false := rfl
@[simp] theorem State.withCommand_sleeping (ws : List Word) : (s.withCommand ws).sleeping = false := rfl
@[simp] theorem State.withCommand_held (ws : List Word) : (s.withCommand ws).held = [] := rfl
@[simp] theorem State.withCommand_channel (ws : List Word) : (s.withCommand ws).channel = ws := rfl
@[simp] theorem State.withCommand_responses (ws : List Word) : (s.withCommand ws).responses = s.responses := rfl
@[simp] theorem State.withCommand_responsesRead (ws : List Word) : (s.withCommand ws).responsesRead = s.responsesRead := rfl
@[simp] theorem State.withCommand_paints (ws : List Word) : (s.withCommand ws).paints = s.paints := rfl
@[simp] theorem State.withCommand_transportReady (ws : List Word) : (s.withCommand ws).transportReady = true := rfl
@[simp] theorem State.withCommand_schedule (ws : List Word) : (s.withCommand ws).schedule = [] := rfl
@[simp] theorem State.withCommand_resets (ws : List Word) : (s.withCommand ws).resets = s.resets := rfl

/-! `State.closeFrame`, which acts only after a grant. -/

@[simp] theorem State.closeFrame_build : s.closeFrame.build = s.build := by
  unfold State.closeFrame; split <;> rfl
@[simp] theorem State.closeFrame_buf : s.closeFrame.buf = s.buf := by
  unfold State.closeFrame; split <;> rfl
@[simp] theorem State.closeFrame_cursor : s.closeFrame.cursor = s.cursor := by
  unfold State.closeFrame; split <;> rfl
@[simp] theorem State.closeFrame_frameRate : s.closeFrame.frameRate = s.frameRate := by
  unfold State.closeFrame; split <;> rfl
@[simp] theorem State.closeFrame_framePeriod : s.closeFrame.framePeriod = s.framePeriod := by
  unfold State.closeFrame; split <;> rfl
@[simp] theorem State.closeFrame_nextFrameStart : s.closeFrame.nextFrameStart = s.nextFrameStart := by
  unfold State.closeFrame; split <;> rfl
@[simp] theorem State.closeFrame_lastFrameStart : s.closeFrame.lastFrameStart = s.lastFrameStart := by
  unfold State.closeFrame; split <;> rfl
@[simp] theorem State.closeFrame_tickCount : s.closeFrame.tickCount = s.tickCount := by
  unfold State.closeFrame; split <;> rfl
@[simp] theorem State.closeFrame_fault : s.closeFrame.fault = s.fault := by
  unfold State.closeFrame; split <;> rfl
@[simp] theorem State.closeFrame_locked : s.closeFrame.locked = s.locked := by
  unfold State.closeFrame; split <;> rfl
@[simp] theorem State.closeFrame_sleeping : s.closeFrame.sleeping = s.sleeping := by
  unfold State.closeFrame; split <;> rfl
@[simp] theorem State.closeFrame_held : s.closeFrame.held = s.held := by
  unfold State.closeFrame; split <;> rfl
@[simp] theorem State.closeFrame_channel : s.closeFrame.channel = s.channel := by
  unfold State.closeFrame; split <;> rfl
@[simp] theorem State.closeFrame_responses : s.closeFrame.responses = s.responses := by
  unfold State.closeFrame; split <;> rfl
@[simp] theorem State.closeFrame_responsesRead : s.closeFrame.responsesRead = s.responsesRead := by
  unfold State.closeFrame; split <;> rfl
@[simp] theorem State.closeFrame_paints : s.closeFrame.paints = s.paints := by
  unfold State.closeFrame; split <;> rfl
@[simp] theorem State.closeFrame_transportReady : s.closeFrame.transportReady = s.transportReady := by
  unfold State.closeFrame; split <;> rfl
@[simp] theorem State.closeFrame_schedule : s.closeFrame.schedule = s.schedule := by
  unfold State.closeFrame; split <;> rfl
@[simp] theorem State.closeFrame_resets : s.closeFrame.resets = s.resets := by
  unfold State.closeFrame; split <;> rfl
@[simp] theorem State.closeFrame_lastFrameDuration : s.closeFrame.lastFrameDuration =
    if s.pendingFlush then tickDiff s.build.tickw s.tickCount s.lastFrameStart else s.lastFrameDuration := by
  unfold State.closeFrame; split <;> rfl
@[simp] theorem State.closeFrame_frameCounter : s.closeFrame.frameCounter =
    if s.pendingFlush then s.frameCounter + 1 else s.frameCounter := by
  unfold State.closeFrame; split <;> rfl
@[simp] theorem State.closeFrame_pendingFlush : s.closeFrame.pendingFlush = false := by
  unfold State.closeFrame; split
  · rfl
  · simpa using ‹¬ s.pendingFlush = true›

/-! `State.tick`. -/

@[simp] theorem State.tick_build : s.tick.build = s.build := by
  simp only [State.tick]; split <;> rfl
@[simp] theorem State.tick_buf : s.tick.buf = s.buf := by
  simp only [State.tick]; split <;> rfl
@[simp] theorem State.tick_cursor : s.tick.cursor = s.cursor := by
  simp only [State.tick]; split <;> rfl
@[simp] theorem State.tick_frameRate : s.tick.frameRate = s.frameRate := by
  simp only [State.tick]; split <;> rfl
@[simp] theorem State.tick_framePeriod : s.tick.framePeriod = s.framePeriod := by
  simp only [State.tick]; split <;> rfl
@[simp] theorem State.tick_nextFrameStart : s.tick.nextFrameStart = s.nextFrameStart := by
  simp only [State.tick]; split <;> rfl
@[simp] theorem State.tick_lastFrameStart : s.tick.lastFrameStart = s.lastFrameStart := by
  simp only [State.tick]; split <;> rfl
@[simp] theorem State.tick_lastFrameDuration : s.tick.lastFrameDuration = s.lastFrameDuration := by
  simp only [State.tick]; split <;> rfl
@[simp] theorem State.tick_frameCounter : s.tick.frameCounter = s.frameCounter := by
  simp only [State.tick]; split <;> rfl
@[simp] theorem State.tick_pendingFlush : s.tick.pendingFlush = s.pendingFlush := by
  simp only [State.tick]; split <;> rfl
@[simp] theorem State.tick_fault : s.tick.fault = s.fault := by
  simp only [State.tick]; split <;> rfl
@[simp] theorem State.tick_locked : s.tick.locked = s.locked := by
  simp only [State.tick]; split <;> rfl
@[simp] theorem State.tick_held : s.tick.held = s.held := by
  simp only [State.tick]; split <;> rfl
@[simp] theorem State.tick_channel : s.tick.channel = s.channel := by
  simp only [State.tick]; split <;> rfl
@[simp] theorem State.tick_responsesRead : s.tick.responsesRead = s.responsesRead := by
  simp only [State.tick]; split <;> rfl
@[simp] theorem State.tick_paints : s.tick.paints = s.paints := by
  simp only [State.tick]; split <;> rfl
@[simp] theorem State.tick_transportReady : s.tick.transportReady = s.transportReady := by
  simp only [State.tick]; split <;> rfl
@[simp] theorem State.tick_schedule : s.tick.schedule = s.schedule := by
  simp only [State.tick]; split <;> rfl
@[simp] theorem State.tick_resets : s.tick.resets = s.resets := by
  simp only [State.tick]; split <;> rfl
@[simp] theorem State.tick_tickCount : s.tick.tickCount = s.tickValue (s.tickCount + 1) := by
  simp only [State.tick]; split <;> rfl
@[simp] theorem State.tick_sleeping : s.tick.sleeping = false := by
  simp only [State.tick]; split
  · rfl
  · simpa using ‹¬ s.sleeping = true›
@[simp] theorem State.tick_responses : s.tick.responses =
    if s.sleeping then s.responses ++ [0] else s.responses := by
  simp only [State.tick]; split <;> simp [State.respond]

/-! The drawing operations write `buf` and `fault` only (R160). -/

theorem State.drawPixel_frame (p : Point) (c : Bool) : ∃ m f, s.drawPixel p c = { s with buf := m, fault := f } := by
  unfold State.drawPixel
  split
  · exact ⟨s.buf, s.fault, rfl⟩
  · split
    · exact ⟨s.buf, s.fault, rfl⟩
    · split
      · exact ⟨s.buf, _, rfl⟩
      · exact ⟨_, s.fault, rfl⟩

theorem State.drawAll_frame (ps : List (Point × Bool)) (s : State) :
    ∃ m f, s.drawAll ps = { s with buf := m, fault := f } := by
  induction ps generalizing s with
  | nil => exact ⟨s.buf, s.fault, rfl⟩
  | cons p ps ih =>
    obtain ⟨m, f, h⟩ := s.drawPixel_frame p.1 p.2
    obtain ⟨m', f', h'⟩ := ih (s.drawPixel p.1 p.2)
    exact ⟨m', f', by rw [show s.drawAll (p :: ps) = (s.drawPixel p.1 p.2).drawAll ps from rfl, h', h]⟩

@[simp] theorem State.drawPixel_build (p : Point) (c : Bool) : (s.drawPixel p c).build = s.build := by
  obtain ⟨_, _, h⟩ := s.drawPixel_frame p c; rw [h]
@[simp] theorem State.drawPixel_cursor (p : Point) (c : Bool) : (s.drawPixel p c).cursor = s.cursor := by
  obtain ⟨_, _, h⟩ := s.drawPixel_frame p c; rw [h]
@[simp] theorem State.drawPixel_frameRate (p : Point) (c : Bool) : (s.drawPixel p c).frameRate = s.frameRate := by
  obtain ⟨_, _, h⟩ := s.drawPixel_frame p c; rw [h]
@[simp] theorem State.drawPixel_framePeriod (p : Point) (c : Bool) : (s.drawPixel p c).framePeriod = s.framePeriod := by
  obtain ⟨_, _, h⟩ := s.drawPixel_frame p c; rw [h]
@[simp] theorem State.drawPixel_nextFrameStart (p : Point) (c : Bool) : (s.drawPixel p c).nextFrameStart = s.nextFrameStart := by
  obtain ⟨_, _, h⟩ := s.drawPixel_frame p c; rw [h]
@[simp] theorem State.drawPixel_lastFrameStart (p : Point) (c : Bool) : (s.drawPixel p c).lastFrameStart = s.lastFrameStart := by
  obtain ⟨_, _, h⟩ := s.drawPixel_frame p c; rw [h]
@[simp] theorem State.drawPixel_lastFrameDuration (p : Point) (c : Bool) : (s.drawPixel p c).lastFrameDuration = s.lastFrameDuration := by
  obtain ⟨_, _, h⟩ := s.drawPixel_frame p c; rw [h]
@[simp] theorem State.drawPixel_frameCounter (p : Point) (c : Bool) : (s.drawPixel p c).frameCounter = s.frameCounter := by
  obtain ⟨_, _, h⟩ := s.drawPixel_frame p c; rw [h]
@[simp] theorem State.drawPixel_pendingFlush (p : Point) (c : Bool) : (s.drawPixel p c).pendingFlush = s.pendingFlush := by
  obtain ⟨_, _, h⟩ := s.drawPixel_frame p c; rw [h]
@[simp] theorem State.drawPixel_tickCount (p : Point) (c : Bool) : (s.drawPixel p c).tickCount = s.tickCount := by
  obtain ⟨_, _, h⟩ := s.drawPixel_frame p c; rw [h]
@[simp] theorem State.drawPixel_locked (p : Point) (c : Bool) : (s.drawPixel p c).locked = s.locked := by
  obtain ⟨_, _, h⟩ := s.drawPixel_frame p c; rw [h]
@[simp] theorem State.drawPixel_sleeping (p : Point) (c : Bool) : (s.drawPixel p c).sleeping = s.sleeping := by
  obtain ⟨_, _, h⟩ := s.drawPixel_frame p c; rw [h]
@[simp] theorem State.drawPixel_held (p : Point) (c : Bool) : (s.drawPixel p c).held = s.held := by
  obtain ⟨_, _, h⟩ := s.drawPixel_frame p c; rw [h]
@[simp] theorem State.drawPixel_channel (p : Point) (c : Bool) : (s.drawPixel p c).channel = s.channel := by
  obtain ⟨_, _, h⟩ := s.drawPixel_frame p c; rw [h]
@[simp] theorem State.drawPixel_responses (p : Point) (c : Bool) : (s.drawPixel p c).responses = s.responses := by
  obtain ⟨_, _, h⟩ := s.drawPixel_frame p c; rw [h]
@[simp] theorem State.drawPixel_responsesRead (p : Point) (c : Bool) : (s.drawPixel p c).responsesRead = s.responsesRead := by
  obtain ⟨_, _, h⟩ := s.drawPixel_frame p c; rw [h]
@[simp] theorem State.drawPixel_paints (p : Point) (c : Bool) : (s.drawPixel p c).paints = s.paints := by
  obtain ⟨_, _, h⟩ := s.drawPixel_frame p c; rw [h]
@[simp] theorem State.drawPixel_transportReady (p : Point) (c : Bool) : (s.drawPixel p c).transportReady = s.transportReady := by
  obtain ⟨_, _, h⟩ := s.drawPixel_frame p c; rw [h]
@[simp] theorem State.drawPixel_schedule (p : Point) (c : Bool) : (s.drawPixel p c).schedule = s.schedule := by
  obtain ⟨_, _, h⟩ := s.drawPixel_frame p c; rw [h]
@[simp] theorem State.drawPixel_resets (p : Point) (c : Bool) : (s.drawPixel p c).resets = s.resets := by
  obtain ⟨_, _, h⟩ := s.drawPixel_frame p c; rw [h]

@[simp] theorem State.drawAll_build (ps : List (Point × Bool)) : (s.drawAll ps).build = s.build := by
  obtain ⟨_, _, h⟩ := State.drawAll_frame ps s; rw [h]
@[simp] theorem State.drawAll_cursor (ps : List (Point × Bool)) : (s.drawAll ps).cursor = s.cursor := by
  obtain ⟨_, _, h⟩ := State.drawAll_frame ps s; rw [h]
@[simp] theorem State.drawAll_frameRate (ps : List (Point × Bool)) : (s.drawAll ps).frameRate = s.frameRate := by
  obtain ⟨_, _, h⟩ := State.drawAll_frame ps s; rw [h]
@[simp] theorem State.drawAll_framePeriod (ps : List (Point × Bool)) : (s.drawAll ps).framePeriod = s.framePeriod := by
  obtain ⟨_, _, h⟩ := State.drawAll_frame ps s; rw [h]
@[simp] theorem State.drawAll_nextFrameStart (ps : List (Point × Bool)) : (s.drawAll ps).nextFrameStart = s.nextFrameStart := by
  obtain ⟨_, _, h⟩ := State.drawAll_frame ps s; rw [h]
@[simp] theorem State.drawAll_lastFrameStart (ps : List (Point × Bool)) : (s.drawAll ps).lastFrameStart = s.lastFrameStart := by
  obtain ⟨_, _, h⟩ := State.drawAll_frame ps s; rw [h]
@[simp] theorem State.drawAll_lastFrameDuration (ps : List (Point × Bool)) : (s.drawAll ps).lastFrameDuration = s.lastFrameDuration := by
  obtain ⟨_, _, h⟩ := State.drawAll_frame ps s; rw [h]
@[simp] theorem State.drawAll_frameCounter (ps : List (Point × Bool)) : (s.drawAll ps).frameCounter = s.frameCounter := by
  obtain ⟨_, _, h⟩ := State.drawAll_frame ps s; rw [h]
@[simp] theorem State.drawAll_pendingFlush (ps : List (Point × Bool)) : (s.drawAll ps).pendingFlush = s.pendingFlush := by
  obtain ⟨_, _, h⟩ := State.drawAll_frame ps s; rw [h]
@[simp] theorem State.drawAll_tickCount (ps : List (Point × Bool)) : (s.drawAll ps).tickCount = s.tickCount := by
  obtain ⟨_, _, h⟩ := State.drawAll_frame ps s; rw [h]
@[simp] theorem State.drawAll_locked (ps : List (Point × Bool)) : (s.drawAll ps).locked = s.locked := by
  obtain ⟨_, _, h⟩ := State.drawAll_frame ps s; rw [h]
@[simp] theorem State.drawAll_sleeping (ps : List (Point × Bool)) : (s.drawAll ps).sleeping = s.sleeping := by
  obtain ⟨_, _, h⟩ := State.drawAll_frame ps s; rw [h]
@[simp] theorem State.drawAll_held (ps : List (Point × Bool)) : (s.drawAll ps).held = s.held := by
  obtain ⟨_, _, h⟩ := State.drawAll_frame ps s; rw [h]
@[simp] theorem State.drawAll_channel (ps : List (Point × Bool)) : (s.drawAll ps).channel = s.channel := by
  obtain ⟨_, _, h⟩ := State.drawAll_frame ps s; rw [h]
@[simp] theorem State.drawAll_responses (ps : List (Point × Bool)) : (s.drawAll ps).responses = s.responses := by
  obtain ⟨_, _, h⟩ := State.drawAll_frame ps s; rw [h]
@[simp] theorem State.drawAll_responsesRead (ps : List (Point × Bool)) : (s.drawAll ps).responsesRead = s.responsesRead := by
  obtain ⟨_, _, h⟩ := State.drawAll_frame ps s; rw [h]
@[simp] theorem State.drawAll_paints (ps : List (Point × Bool)) : (s.drawAll ps).paints = s.paints := by
  obtain ⟨_, _, h⟩ := State.drawAll_frame ps s; rw [h]
@[simp] theorem State.drawAll_transportReady (ps : List (Point × Bool)) : (s.drawAll ps).transportReady = s.transportReady := by
  obtain ⟨_, _, h⟩ := State.drawAll_frame ps s; rw [h]
@[simp] theorem State.drawAll_schedule (ps : List (Point × Bool)) : (s.drawAll ps).schedule = s.schedule := by
  obtain ⟨_, _, h⟩ := State.drawAll_frame ps s; rw [h]
@[simp] theorem State.drawAll_resets (ps : List (Point × Bool)) : (s.drawAll ps).resets = s.resets := by
  obtain ⟨_, _, h⟩ := State.drawAll_frame ps s; rw [h]

@[simp] theorem State.draw_build (c : Bool) (ps : List Point) : (s.draw c ps).build = s.build := State.drawAll_build s _
@[simp] theorem State.draw_cursor (c : Bool) (ps : List Point) : (s.draw c ps).cursor = s.cursor := State.drawAll_cursor s _
@[simp] theorem State.draw_frameRate (c : Bool) (ps : List Point) : (s.draw c ps).frameRate = s.frameRate := State.drawAll_frameRate s _
@[simp] theorem State.draw_framePeriod (c : Bool) (ps : List Point) : (s.draw c ps).framePeriod = s.framePeriod := State.drawAll_framePeriod s _
@[simp] theorem State.draw_nextFrameStart (c : Bool) (ps : List Point) : (s.draw c ps).nextFrameStart = s.nextFrameStart := State.drawAll_nextFrameStart s _
@[simp] theorem State.draw_lastFrameStart (c : Bool) (ps : List Point) : (s.draw c ps).lastFrameStart = s.lastFrameStart := State.drawAll_lastFrameStart s _
@[simp] theorem State.draw_lastFrameDuration (c : Bool) (ps : List Point) : (s.draw c ps).lastFrameDuration = s.lastFrameDuration := State.drawAll_lastFrameDuration s _
@[simp] theorem State.draw_frameCounter (c : Bool) (ps : List Point) : (s.draw c ps).frameCounter = s.frameCounter := State.drawAll_frameCounter s _
@[simp] theorem State.draw_pendingFlush (c : Bool) (ps : List Point) : (s.draw c ps).pendingFlush = s.pendingFlush := State.drawAll_pendingFlush s _
@[simp] theorem State.draw_tickCount (c : Bool) (ps : List Point) : (s.draw c ps).tickCount = s.tickCount := State.drawAll_tickCount s _
@[simp] theorem State.draw_locked (c : Bool) (ps : List Point) : (s.draw c ps).locked = s.locked := State.drawAll_locked s _
@[simp] theorem State.draw_sleeping (c : Bool) (ps : List Point) : (s.draw c ps).sleeping = s.sleeping := State.drawAll_sleeping s _
@[simp] theorem State.draw_held (c : Bool) (ps : List Point) : (s.draw c ps).held = s.held := State.drawAll_held s _
@[simp] theorem State.draw_channel (c : Bool) (ps : List Point) : (s.draw c ps).channel = s.channel := State.drawAll_channel s _
@[simp] theorem State.draw_responses (c : Bool) (ps : List Point) : (s.draw c ps).responses = s.responses := State.drawAll_responses s _
@[simp] theorem State.draw_responsesRead (c : Bool) (ps : List Point) : (s.draw c ps).responsesRead = s.responsesRead := State.drawAll_responsesRead s _
@[simp] theorem State.draw_paints (c : Bool) (ps : List Point) : (s.draw c ps).paints = s.paints := State.drawAll_paints s _
@[simp] theorem State.draw_transportReady (c : Bool) (ps : List Point) : (s.draw c ps).transportReady = s.transportReady := State.drawAll_transportReady s _
@[simp] theorem State.draw_schedule (c : Bool) (ps : List Point) : (s.draw c ps).schedule = s.schedule := State.drawAll_schedule s _
@[simp] theorem State.draw_resets (c : Bool) (ps : List Point) : (s.draw c ps).resets = s.resets := State.drawAll_resets s _

end Sys2Proof.Machine
end

