-- ==== Sys2Proof/Laws/Engine.lean ====
section
/-! SUPPORT. What a turn of the band engine, a step of the machine and a run of events can do, said once. -/

namespace Sys2Proof.Machine

/-- A turn of the band engine (R37, R38, R44, R91, R99): it discards a word, waits, executes one decoded command, locks on
an illegal one, or keeps the words it has. -/
theorem engineTurn_cases (s : State) :
    (s.locked = true ∧ engineTurn s = .next s.discardWord) ∨
    (s.locked = false ∧ s.sleeping = true ∧ engineTurn s = .next s) ∨
    (s.locked = false ∧ s.sleeping = false ∧ ∃ i rest, decode s.words = .command i rest ∧
      ((s.waits i = true ∧ engineTurn s = .next { s with held := encode i, channel := rest }) ∨
       (s.waits i = false ∧ engineTurn s = exec i (s.accepted rest)))) ∨
    (s.locked = false ∧ s.sleeping = false ∧ ∃ why rest, decode s.words = .illegal why rest ∧
      engineTurn s = .next (s.accepted rest).lock) ∨
    (s.locked = false ∧ s.sleeping = false ∧ decode s.words = .incomplete ∧
      engineTurn s = .next { s with held := s.words, channel := [] }) := by
  unfold engineTurn
  cases hl : s.locked <;> cases hs : s.sleeping <;> simp
  cases hd : decode s.words with
  | command i rest => cases hw : s.waits i <;> simp [hw]
  | illegal why rest => simp
  | incomplete => simp

/-- A step is the turn that the schedule names, or the band engine's when it names none (R18, log 4). -/
theorem step_cases (s : State) :
    (s.schedule = [] ∧ step s = engineTurn s) ∨
    ∃ t rest, s.schedule = t :: rest ∧ step s = takeTurn t { s with schedule := rest } := by
  unfold step State.nextTurn
  cases h : s.schedule with
  | nil => left; refine ⟨rfl, ?_⟩; simp only [List.headD_nil, List.tail_nil, takeTurn]; rw [← h]
  | cons t rest => right; exact ⟨t, rest, rfl, by simp⟩

/-- Which command waits: a `FLUSH` with a band to hand over while the transport is not ready (R146, R246). -/
theorem State.waits_iff (s : State) (i : Instr) :
    s.waits i = true ↔ i = .flush ∧ s.cursor < s.build.height ∧ s.transportReady = false := by
  simp [State.waits, State.bandLeft, and_assoc]

@[simp] theorem Event.apply_command (i : Instr) (s : State) : (Event.command i).apply s = exec i s := rfl

@[simp] theorem Event.apply_tick (s : State) : Event.tick.apply s = .next s.tick := rfl

@[simp] theorem runEvents_nil (s : State) : runEvents [] s = .next s := rfl

/-- A run of events goes on exactly when its first event answers a next state. -/
theorem runEvents_cons_next (e : Event) (es : List Event) (s t : State) :
    runEvents (e :: es) s = .next t ↔ ∃ u, e.apply s = .next u ∧ runEvents es u = .next t := by
  simp only [runEvents]
  cases e.apply s <;> simp

@[simp] theorem noGrant_nil (s : State) : noGrant [] s = true := rfl

/-- After an event that answers `t`, no `POLL` grants exactly when this event is no granting `POLL` and none of the rest is. -/
theorem noGrant_cons (e : Event) (es : List Event) (s t : State) (h : e.apply s = .next t) :
    noGrant (e :: es) s = true ↔ (e = .command .poll → t.pendingFlush = false) ∧ noGrant es t = true := by
  simp only [noGrant, h, Bool.and_eq_true, Bool.or_eq_true, bne_iff_ne, Bool.not_eq_true', ne_eq]
  tauto

@[simp] theorem execs_nil (s : State) : execs [] s = .next s := rfl

/-- A run of commands goes on exactly when its first command answers a next state. -/
theorem execs_cons_next (i : Instr) (is : List Instr) (s t : State) :
    execs (i :: is) s = .next t ↔ ∃ u, exec i s = .next u ∧ execs is u = .next t :=
  runEvents_cons_next (.command i) (is.map .command) s t

end Sys2Proof.Machine
end

