-- ==== Sys2Proof/Laws/Memory.lean ====
section
/-! SUPPORT. The laws of `BUF` as memory: read after write, what every operation leaves alone, and that every operation
keeps the canonical form, in which equal buffers are equal lists. -/

namespace Sys2Proof.Machine

/-- Reading a column after a write: the written byte there, the old content everywhere else. -/
@[simp] theorem Memory.find_write (m : Memory) (a : Nat) (v : Byte) (b : Nat) :
    Memory.find (Memory.write m a v) b = if a = b then some v else Memory.find m b := by
  induction m with
  | nil => simp [Memory.write, Memory.find]
  | cons c m ih =>
    obtain ⟨k, w⟩ := c
    simp only [Memory.write]
    split
    · simp [Memory.find]
    · split
      · subst a
        simp only [Memory.find]
        split <;> simp_all
      · simp only [Memory.find, ih]
        split <;> split <;> simp_all

theorem Memory.risingFrom_mono {n lo lo' : Nat} {m : Memory} (hle : lo' ≤ lo)
    (h : Memory.risingFrom n lo m = true) : Memory.risingFrom n lo' m = true := by
  cases m with
  | nil => rfl
  | cons c m =>
    simp only [Memory.risingFrom, Bool.and_eq_true, decide_eq_true_eq] at h ⊢
    exact ⟨⟨hle.trans h.1.1, h.1.2⟩, h.2⟩

theorem Memory.risingFrom_write {n : Nat} {m : Memory} {lo a : Nat} {v : Byte} (hlo : lo ≤ a) (ha : a < n)
    (h : Memory.risingFrom n lo m = true) : Memory.risingFrom n lo (Memory.write m a v) = true := by
  induction m generalizing lo with
  | nil => simp [Memory.write, Memory.risingFrom, hlo, ha]
  | cons c m ih =>
    obtain ⟨k, w⟩ := c
    simp only [Memory.risingFrom, Bool.and_eq_true, decide_eq_true_eq] at h
    obtain ⟨⟨h1, h2⟩, h3⟩ := h
    simp only [Memory.write]
    split
    · simp only [Memory.risingFrom, Bool.and_eq_true, decide_eq_true_eq]
      exact ⟨⟨hlo, ha⟩, ⟨by omega, h2⟩, h3⟩
    · split
      · subst a
        simp only [Memory.risingFrom, Bool.and_eq_true, decide_eq_true_eq]
        exact ⟨⟨hlo, ha⟩, h3⟩
      · simp only [Memory.risingFrom, Bool.and_eq_true, decide_eq_true_eq]
        exact ⟨⟨h1, h2⟩, ih (by omega) h3⟩

/-- A write to a column of the buffer keeps the canonical form. -/
theorem Memory.wf_write {n : Nat} {m : Memory} {a : Nat} {v : Byte} (ha : a < n) (h : Memory.wf n m = true) :
    Memory.wf n (Memory.write m a v) = true :=
  Memory.risingFrom_write (Nat.zero_le a) ha h

theorem Memory.wf_nil (n : Nat) : Memory.wf n [] = true := rfl

theorem Memory.risingFrom_range (v : Byte) (k lo n : Nat) (h : lo + k ≤ n) :
    Memory.risingFrom n lo ((List.range' lo k).map fun x => (x, v)) = true := by
  induction k generalizing lo with
  | zero => rfl
  | succ k ih =>
    simp only [List.range'_succ, List.map_cons, Memory.risingFrom, Bool.and_eq_true, decide_eq_true_eq]
    exact ⟨⟨Nat.le_refl lo, by omega⟩, ih (lo + 1) (by omega)⟩

/-- A buffer filled by `CLEAR` has the canonical form. -/
theorem Memory.wf_filled (n : Nat) (v : Byte) : Memory.wf n (Memory.filled n v) = true := by
  rw [Memory.wf, Memory.filled, List.range_eq_range']
  exact Memory.risingFrom_range v n 0 n (by omega)

theorem Memory.find_range (v : Byte) (k lo a : Nat) :
    Memory.find ((List.range' lo k).map fun x => (x, v)) a = if lo ≤ a ∧ a < lo + k then some v else none := by
  induction k generalizing lo with
  | zero => simp [Memory.find]
  | succ k ih =>
    simp only [List.range'_succ, List.map_cons, Memory.find, ih]
    by_cases h : lo = a
    · subst a; simp
    · rw [if_neg h]
      congr 1
      apply propext
      omega

/-- After `CLEAR` every column of the buffer has the colour's byte. -/
@[simp] theorem Memory.find_filled (n : Nat) (v : Byte) (a : Nat) :
    Memory.find (Memory.filled n v) a = if a < n then some v else none := by
  rw [Memory.filled, List.range_eq_range', Memory.find_range]
  simp

theorem Memory.find_eq_none_of_lt {n lo : Nat} {m : Memory} (h : Memory.risingFrom n lo m = true) {a : Nat}
    (ha : a < lo) : Memory.find m a = none := by
  induction m generalizing lo with
  | nil => rfl
  | cons c m ih =>
    obtain ⟨k, w⟩ := c
    simp only [Memory.risingFrom, Bool.and_eq_true, decide_eq_true_eq] at h
    simp only [Memory.find]
    rw [if_neg (by omega)]
    exact ih h.2 (by omega)

theorem Memory.ext_risingFrom {n lo : Nat} {m m' : Memory} (h : Memory.risingFrom n lo m = true)
    (h' : Memory.risingFrom n lo m' = true) (he : ∀ a, Memory.find m a = Memory.find m' a) : m = m' := by
  induction m generalizing lo m' with
  | nil =>
    cases m' with
    | nil => rfl
    | cons c m' => have := he c.1; simp [Memory.find] at this
  | cons c m ih =>
    obtain ⟨k, w⟩ := c
    cases m' with
    | nil => have := he k; simp [Memory.find] at this
    | cons c' m' =>
      obtain ⟨k', w'⟩ := c'
      simp only [Memory.risingFrom, Bool.and_eq_true, decide_eq_true_eq] at h h'
      have hk : k = k' := by
        rcases Nat.lt_trichotomy k k' with hlt | heq | hgt
        · have := he k
          simp only [Memory.find, if_pos] at this
          rw [if_neg (by omega), Memory.find_eq_none_of_lt h'.2 (by omega)] at this
          simp at this
        · exact heq
        · have := he k'
          simp only [Memory.find, if_pos] at this
          rw [if_neg (by omega), Memory.find_eq_none_of_lt h.2 (by omega)] at this
          simp at this
      subst hk
      have hw : w = w' := by simpa [Memory.find] using he k
      subst hw
      have : m = m' := ih h.2 h'.2 fun a => by
        by_cases ha : a < k + 1
        · rw [Memory.find_eq_none_of_lt h.2 ha, Memory.find_eq_none_of_lt h'.2 ha]
        · have := he a
          simp only [Memory.find] at this
          rwa [if_neg (by omega), if_neg (by omega)] at this
      rw [this]

/-- Two buffers in canonical form with the same written bytes are the same list. -/
theorem Memory.ext_wf {n : Nat} {m m' : Memory} (h : Memory.wf n m = true) (h' : Memory.wf n m' = true)
    (he : ∀ a, Memory.find m a = Memory.find m' a) : m = m' :=
  Memory.ext_risingFrom h h' he

end Sys2Proof.Machine
end

