-- ==== Sys2Proof/Laws/Ops.lean ====
section
/-! SUPPORT. One lemma for each shared operation that says once everything it can do. -/

namespace Sys2Proof.Machine

/-- Raising a fault sets its bit of `FAULT` and leaves every other state alone (R232). -/
theorem State.raise_spec (s : State) (f : FaultBit) : s.raise f = { s with fault := s.fault ||| f.bit } := rfl

/-- An illegal command sets ILLEGAL and locks the block (R99). -/
theorem State.lock_spec (s : State) : s.lock = { s with fault := s.fault ||| 0b0001#4, locked := true } := rfl

/-- A response appends one word, reduced to RESPW bits (R101). -/
theorem State.respond_spec (s : State) (v : Nat) :
    s.respond v = { s with responses := s.responses ++ [v % 2 ^ s.build.respw] } := rfl

/-- A bit is set after `raise` exactly when it was set before or is the raised one. -/
theorem State.raise_getLsbD (s : State) (f : FaultBit) (k : Nat) :
    (s.raise f).fault.getLsbD k = (s.fault.getLsbD k || decide (k = f.code)) := by
  cases f <;> simp only [State.raise_fault, BitVec.getLsbD_or, FaultBit.bit, FaultBit.code] <;> congr 1 <;>
    (rcases k with _ | _ | _ | _ | k <;> simp)

/-- Reading a column after a column is written. -/
@[simp] theorem State.column_setColumn (s : State) (x : Nat) (v : Byte) (y : Nat) :
    (s.setColumn x v).column y = if x = y then v else s.column y := by
  simp only [State.column, State.setColumn_buf, Memory.find_write, State.setColumn_resets]
  by_cases h : x = y <;> simp [h]

/-- A column depends only on `buf` and on the number of resets. -/
theorem State.column_congr {s t : State} (hb : t.buf = s.buf) (hr : t.resets = s.resets) (x : Nat) :
    t.column x = s.column x := by
  simp only [State.column, hb, hr]

/-- The bits of a byte after one of them is set or cleared (R61). -/
theorem getLsbD_setBit (v : Byte) (b : Nat) (c : Bool) (k : Nat) (hb : b < 8) :
    (setBit v b c).getLsbD k = if k = b then c else v.getLsbD k := by
  unfold setBit
  by_cases hk : k < 8
  · interval_cases b <;> interval_cases k <;> cases c <;> simp
  · have h1 : ∀ w : BitVec 8, w.getLsbD k = false := fun w => BitVec.getLsbD_of_ge w k (by omega)
    rw [h1, h1, if_neg (by omega)]

/-- The row of a band: `band y = cursor` says that y is one of the eight rows from an aligned cursor (R143). -/
theorem band_eq_iff (y : Int) (n : Nat) :
    band y = (n : Int) ↔ n % 8 = 0 ∧ (n : Int) ≤ y ∧ y < n + 8 := by
  unfold band; omega

/-- `DrawPixel` (R143), case by case: nothing, one bit of one column, or OOB. -/
theorem State.drawPixel_cases (s : State) (p : Point) (c : Bool) :
    (¬ Claims.RowReached s p.2 ∧ s.drawPixel p c = s) ∨
    (Claims.RowReached s p.2 ∧ (p.1 < 0 ∨ (s.build.width : Int) ≤ p.1) ∧ s.build.boundsCheck = true ∧
      s.drawPixel p c = s) ∨
    (Claims.RowReached s p.2 ∧ (p.1 < 0 ∨ (s.build.width : Int) ≤ p.1) ∧ s.build.boundsCheck = false ∧
      s.drawPixel p c = s.raise .oob) ∨
    (Claims.RowReached s p.2 ∧ 0 ≤ p.1 ∧ p.1 < s.build.width ∧
      s.drawPixel p c = s.setColumn p.1.toNat (setBit (s.column p.1.toNat) (p.2 % 8).toNat c)) := by
  unfold State.drawPixel Claims.RowReached onCanvas
  cases hb : s.build.boundsCheck <;> by_cases hband : band p.2 = (s.cursor : Int) <;>
    by_cases hx : p.1 < 0 ∨ (s.build.width : Int) ≤ p.1 <;> simp [hband, hx] <;> omega

end Sys2Proof.Machine

namespace Sys2Proof.Claims

open Sys2Proof.Machine

/-- The ink of a list of pixel attempts. -/
def listInk (ps : List (Point × Bool)) : Ink := fun x y c => ((x, y), c) ∈ ps

/-- `Drawn` depends only on which pixels are attempted. -/
theorem Drawn.congr {ink ink' : Ink} {s t : State} (h : ∀ x y c, ink x y c ↔ ink' x y c) (hd : Drawn ink s t) :
    Drawn ink' s t := by
  have : ink = ink' := by funext x y c; exact propext (h x y c)
  exact this ▸ hd

theorem listInk_draw (c : Bool) (ps : List Point) (x y : Int) (c' : Bool) :
    listInk (ps.map fun p => (p, c)) x y c' ↔ inColour c (fun px py => (px, py) ∈ ps) x y c' := by
  simp only [listInk, inColour, List.mem_map, Prod.mk.injEq]
  constructor
  · rintro ⟨p, hp, rfl, rfl⟩; exact ⟨rfl, hp⟩
  · rintro ⟨rfl, hp⟩; exact ⟨_, hp, rfl, rfl⟩

/-- The bit `b` of column `x` after the pixel attempts `ps`: the last attempt that hits it decides. -/
theorem drawAll_bit (ps : List (Point × Bool)) (s : State) (x b : Nat) :
    (∀ c, ¬ Hits (listInk ps) s x b c) ∧ ((s.drawAll ps).column x).getLsbD b = (s.column x).getLsbD b ∨
    ∃ c, Hits (listInk ps) s x b c ∧ ((s.drawAll ps).column x).getLsbD b = c := by
  induction ps generalizing s with
  | nil => exact .inl ⟨fun c h => by simpa [listInk] using h.2.2.2, rfl⟩
  | cons p ps ih =>
    obtain ⟨⟨px, py⟩, pc⟩ := p
    have hstep : s.drawAll (((px, py), pc) :: ps) = (s.drawPixel (px, py) pc).drawAll ps := rfl
    rw [hstep]
    have hhits : ∀ c, Hits (listInk ps) (s.drawPixel (px, py) pc) x b c ↔ Hits (listInk ps) s x b c := by
      intro c; simp [Hits, RowReached]
    have hmem : ∀ c, Hits (listInk (((px, py), pc) :: ps)) s x b c ↔
        (x < s.build.width ∧ b < 8 ∧ RowReached s (s.cursor + b) ∧
          ((x : Int) = px ∧ ((s.cursor + b : Nat) : Int) = py ∧ c = pc)) ∨ Hits (listInk ps) s x b c := by
      intro c
      simp only [Hits, listInk, List.mem_cons, Prod.mk.injEq, Nat.cast_add]
      tauto
    rcases ih (s.drawPixel (px, py) pc) with ⟨hno, heq⟩ | ⟨c, hc, heq⟩
    · rw [heq]
      by_cases hit : x < s.build.width ∧ b < 8 ∧ RowReached s (s.cursor + b) ∧
          (x : Int) = px ∧ ((s.cursor + b : Nat) : Int) = py
      · right
        obtain ⟨h1, h2, h3, h4, h5⟩ := hit
        refine ⟨pc, (hmem pc).2 (.inl ⟨h1, h2, h3, h4, h5, rfl⟩), ?_⟩
        subst h4 h5
        have h3' : RowReached s (((x : Int), ((s.cursor + b : Nat) : Int)) : Point).2 := by
          simpa using h3
        have hal := (band_eq_iff _ _).1 h3.1
        rcases s.drawPixel_cases ((x : Int), ((s.cursor + b : Nat) : Int)) pc with
          ⟨h, _⟩ | ⟨_, h, _⟩ | ⟨_, h, _⟩ | ⟨_, _, _, h⟩
        · exact absurd h3' h
        · simp only at h; omega
        · simp only at h; omega
        · rw [h]
          have hbit : (((s.cursor + b : Nat) : Int) % 8).toNat = b := by omega
          simp only [Int.toNat_natCast, State.column_setColumn, if_pos, hbit]
          rw [getLsbD_setBit _ _ _ _ h2, if_pos rfl]
      · left
        refine ⟨fun c h => ?_, ?_⟩
        · rcases (hmem c).1 h with ⟨h1, h2, h3, h4, h5, _⟩ | h
          · exact hit ⟨h1, h2, h3, h4, h5⟩
          · exact hno c ((hhits c).2 h)
        · rcases s.drawPixel_cases (px, py) pc with ⟨_, h⟩ | ⟨_, _, _, h⟩ | ⟨_, _, _, h⟩ | ⟨hr, h0, hw, h⟩
          · rw [h]
          · rw [h]
          · rw [h]; exact congrArg (·.getLsbD b) (State.column_congr rfl rfl x)
          · rw [h, State.column_setColumn]
            split
            · rename_i hx
              simp only at hx hr h0 hw
              have hal := (band_eq_iff _ _).1 hr.1
              rw [getLsbD_setBit _ _ _ _ (by simp only; omega)]
              split
              · rename_i hb
                simp only at hb
                have e : (s.cursor : Int) + b = py := by omega
                exact absurd ⟨by omega, by omega, e ▸ hr, by omega, by simp; omega⟩ hit
              · rw [hx]
            · rfl
    · exact .inr ⟨c, (hmem c).2 (.inr ((hhits c).1 hc)), heq⟩

/-- `FAULT` after the pixel attempts `ps`: OOB is set exactly when one of them is off the edge. -/
theorem drawAll_fault (ps : List (Point × Bool)) (s : State) :
    (OffEdge (listInk ps) s → (s.drawAll ps).fault = s.fault ||| 0b1000#4) ∧
    (¬ OffEdge (listInk ps) s → (s.drawAll ps).fault = s.fault) := by
  induction ps generalizing s with
  | nil =>
    refine ⟨fun h => ?_, fun _ => rfl⟩
    obtain ⟨_, x, y, c, h, _⟩ := h
    simp [listInk] at h
  | cons p ps ih =>
    obtain ⟨⟨px, py⟩, pc⟩ := p
    have hstep : s.drawAll (((px, py), pc) :: ps) = (s.drawPixel (px, py) pc).drawAll ps := rfl
    rw [hstep]
    have hoff : OffEdge (listInk ps) (s.drawPixel (px, py) pc) ↔ OffEdge (listInk ps) s := by
      simp [OffEdge]
    have hcons : OffEdge (listInk (((px, py), pc) :: ps)) s ↔
        (s.build.boundsCheck = false ∧ band py = (s.cursor : Int) ∧ (px < 0 ∨ (s.build.width : Int) ≤ px)) ∨
          OffEdge (listInk ps) s := by
      constructor
      · rintro ⟨hb, x, y, c, hm, hrest⟩
        rcases List.mem_cons.1 hm with h | h
        · obtain ⟨⟨rfl, rfl⟩, rfl⟩ := by simpa using h
          exact .inl ⟨hb, hrest⟩
        · exact .inr ⟨hb, x, y, c, h, hrest⟩
      · rintro (⟨hb, h⟩ | ⟨hb, x, y, c, hm, h⟩)
        · exact ⟨hb, px, py, pc, List.mem_cons_self, h⟩
        · exact ⟨hb, x, y, c, List.mem_cons_of_mem _ hm, h⟩
    have hor : s.fault ||| 0b1000#4 ||| 0b1000#4 = s.fault ||| 0b1000#4 := by
      rw [BitVec.or_assoc, BitVec.or_self]
    have ih' := ih (s.drawPixel (px, py) pc)
    rw [hoff] at ih'
    rw [hcons]
    by_cases hhere : s.build.boundsCheck = false ∧ band py = (s.cursor : Int) ∧
        (px < 0 ∨ (s.build.width : Int) ≤ px)
    · have hf : (s.drawPixel (px, py) pc).fault = s.fault ||| 0b1000#4 := by
        obtain ⟨hb, hband, hx⟩ := hhere
        have hr : RowReached s py := ⟨hband, fun h => by simp [hb] at h⟩
        rcases s.drawPixel_cases (px, py) pc with ⟨h, _⟩ | ⟨_, _, h, _⟩ | ⟨_, _, _, h⟩ | ⟨_, h1, h2, _⟩
        · exact absurd hr h
        · simp [hb] at h
        · rw [h]; rfl
        · simp only at h1 h2; omega
      rw [hf] at ih'
      refine ⟨fun _ => ?_, fun h => absurd (.inl hhere) h⟩
      by_cases h : OffEdge (listInk ps) s
      · rw [ih'.1 h, hor]
      · exact ih'.2 h
    · have hf : (s.drawPixel (px, py) pc).fault = s.fault := by
        rcases s.drawPixel_cases (px, py) pc with ⟨_, h⟩ | ⟨_, _, _, h⟩ | ⟨hr, hx, hb, _⟩ | ⟨_, _, _, h⟩
        · rw [h]
        · rw [h]
        · exact absurd ⟨hb, hr.1, hx⟩ hhere
        · rw [h]; rfl
      rw [hf] at ih'
      simpa only [hhere, false_or] using ih'

/-- The law of drawing (R143, R160, R74): after pixel attempts that give no pixel two colours, exactly the bits they hit have
changed to their colour, OOB is set exactly when one was off the edge, and no other state changed. -/
theorem drawAll_drawn (ps : List (Point × Bool)) (s : State)
    (hfun : ∀ p c c', (p, c) ∈ ps → (p, c') ∈ ps → c = c') : Drawn (listInk ps) s (s.drawAll ps) where
  frame := by obtain ⟨m, f, h⟩ := s.drawAll_frame ps; rw [h]
  inked x b c hc := by
    rcases drawAll_bit ps s x b with ⟨hno, _⟩ | ⟨c', hc', h⟩
    · exact absurd hc (hno c)
    · rw [h]; exact hfun _ _ _ hc'.2.2.2 hc.2.2.2
  kept x b hno := by
    rcases drawAll_bit ps s x b with ⟨_, h⟩ | ⟨c', hc', _⟩
    · exact h
    · exact absurd hc' (hno c')
  oob := (drawAll_fault ps s).1
  noFault := (drawAll_fault ps s).2

/-- The law of drawing in one colour: what a command draws is the set of pixels it attempts. -/
theorem draw_drawn (c : Bool) (ps : List Point) (shape : Int → Int → Prop) (s : State)
    (h : ∀ px py, (px, py) ∈ ps ↔ shape px py) : Drawn (inColour c shape) s (s.draw c ps) := by
  refine Drawn.congr (ink := listInk (ps.map fun p => (p, c))) (fun x y c' => ?_) (drawAll_drawn _ s ?_)
  · rw [listInk_draw]; simp only [inColour, h]
  · rintro p c1 c2 h1 h2
    simp only [List.mem_map, Prod.mk.injEq] at h1 h2
    obtain ⟨_, _, _, rfl⟩ := h1
    obtain ⟨_, _, _, rfl⟩ := h2
    rfl

end Sys2Proof.Claims
end

