-- ==== Sys2Proof/Laws/PerInstr.lean ====
section
/-! SUPPORT. Facts about every instruction as syntax, one lemma per constructor. -/

namespace Sys2Proof.Laws

/-- A header word of a row that uses neither `AUX` nor `COL` selects it (R92, R95). -/
theorem ofHeader_header_fixed (o : Opcode) (h : o.mask = 0xFFFF#16) : Opcode.ofHeader (header o 0 0) = some o := by
  revert h; cases o <;> decide +kernel

/-- A header word of a row that uses `COL` alone selects it, at every colour (R92, R95). -/
theorem ofHeader_header_col (o : Opcode) (col : Nibble) (h : o.mask = 0xFFF0#16) :
    Opcode.ofHeader (header o 0 col) = some o := by
  revert col h; cases o <;> decide +kernel

/-- A header word of a row that uses `AUX` and `COL` selects it, at every value of both (R92, R95). -/
theorem ofHeader_header_aux (o : Opcode) (aux col : Nibble) (h : o.mask = 0xFF00#16) :
    Opcode.ofHeader (header o aux col) = some o := by
  revert aux col h; cases o <;> decide +kernel

/-- A header word of `FCIRCLEQ` selects it when the two upper bits of `AUX` are zero (R95). -/
theorem ofHeader_header_fcircleq (sides col : Nibble) (h : sides.extractLsb' 2 2 = 0) :
    Opcode.ofHeader (header .fcircleq sides col) = some .fcircleq := by
  revert sides col; decide +kernel

/-- The shape of a command's words (R91, R92, R94, R95): a header word that selects a row, then as many operand words as the
row says. -/
def EncodeShape.Statement (i : Instr) : Prop :=
  i.WellFormed → ∃ o aux col ops, encode i = header o aux col :: ops ∧ ops.length = o.operands ∧
    Opcode.ofHeader (header o aux col) = some o

theorem EncodeShape.setrate (rate : Word) : EncodeShape.Statement (.setrate rate) :=
  fun _ => ⟨.setrate, 0, 0, _, rfl, rfl, ofHeader_header_fixed _ rfl⟩

theorem EncodeShape.poll : EncodeShape.Statement .poll :=
  fun _ => ⟨.poll, 0, 0, _, rfl, rfl, ofHeader_header_fixed _ rfl⟩

theorem EncodeShape.load : EncodeShape.Statement .load :=
  fun _ => ⟨.load, 0, 0, _, rfl, rfl, ofHeader_header_fixed _ rfl⟩

theorem EncodeShape.everyn (n : Word) : EncodeShape.Statement (.everyn n) :=
  fun _ => ⟨.everyn, 0, 0, _, rfl, rfl, ofHeader_header_fixed _ rfl⟩

theorem EncodeShape.faults : EncodeShape.Statement .faults :=
  fun _ => ⟨.faults, 0, 0, _, rfl, rfl, ofHeader_header_fixed _ rfl⟩

theorem EncodeShape.needs : EncodeShape.Statement .needs :=
  fun _ => ⟨.needs, 0, 0, _, rfl, rfl, ofHeader_header_fixed _ rfl⟩

theorem EncodeShape.clear (col : Nibble) : EncodeShape.Statement (.clear col) :=
  fun _ => ⟨.clear, 0, col, _, rfl, rfl, ofHeader_header_col _ _ rfl⟩

theorem EncodeShape.pixel (x y : Word) (col : Nibble) : EncodeShape.Statement (.pixel x y col) :=
  fun _ => ⟨.pixel, 0, col, _, rfl, rfl, ofHeader_header_col _ _ rfl⟩

theorem EncodeShape.flush : EncodeShape.Statement .flush :=
  fun _ => ⟨.flush, 0, 0, _, rfl, rfl, ofHeader_header_fixed _ rfl⟩

theorem EncodeShape.vline (x y h : Word) (col : Nibble) : EncodeShape.Statement (.vline x y h col) :=
  fun _ => ⟨.vline, 0, col, _, rfl, rfl, ofHeader_header_col _ _ rfl⟩

theorem EncodeShape.hline (x y w : Word) (col : Nibble) : EncodeShape.Statement (.hline x y w col) :=
  fun _ => ⟨.hline, 0, col, _, rfl, rfl, ofHeader_header_col _ _ rfl⟩

theorem EncodeShape.line (x0 y0 x1 y1 : Word) (col : Nibble) : EncodeShape.Statement (.line x0 y0 x1 y1 col) :=
  fun _ => ⟨.line, 0, col, _, rfl, rfl, ofHeader_header_col _ _ rfl⟩

theorem EncodeShape.rect (x y w h : Word) (col : Nibble) : EncodeShape.Statement (.rect x y w h col) :=
  fun _ => ⟨.rect, 0, col, _, rfl, rfl, ofHeader_header_col _ _ rfl⟩

theorem EncodeShape.frect (x y w h : Word) (col : Nibble) : EncodeShape.Statement (.frect x y w h col) :=
  fun _ => ⟨.frect, 0, col, _, rfl, rfl, ofHeader_header_col _ _ rfl⟩

theorem EncodeShape.circle (x0 y0 r : Word) (col : Nibble) : EncodeShape.Statement (.circle x0 y0 r col) :=
  fun _ => ⟨.circle, 0, col, _, rfl, rfl, ofHeader_header_col _ _ rfl⟩

theorem EncodeShape.circleq (x0 y0 r : Word) (corners col : Nibble) : EncodeShape.Statement (.circleq x0 y0 r corners col) :=
  fun _ => ⟨.circleq, corners, col, _, rfl, rfl, ofHeader_header_aux _ _ _ rfl⟩

theorem EncodeShape.fcircle (x0 y0 r : Word) (col : Nibble) : EncodeShape.Statement (.fcircle x0 y0 r col) :=
  fun _ => ⟨.fcircle, 0, col, _, rfl, rfl, ofHeader_header_col _ _ rfl⟩

theorem EncodeShape.fcircleq (x0 y0 r delta : Word) (sides col : Nibble) : EncodeShape.Statement (.fcircleq x0 y0 r delta sides col) := fun h =>
  ⟨.fcircleq, sides, col, _, rfl, rfl, ofHeader_header_fcircleq sides col (beq_iff_eq.1 h)⟩

theorem EncodeShape.rrect (x y w h r : Word) (col : Nibble) : EncodeShape.Statement (.rrect x y w h r col) :=
  fun _ => ⟨.rrect, 0, col, _, rfl, rfl, ofHeader_header_col _ _ rfl⟩

theorem EncodeShape.frrect (x y w h r : Word) (col : Nibble) : EncodeShape.Statement (.frrect x y w h r col) :=
  fun _ => ⟨.frrect, 0, col, _, rfl, rfl, ofHeader_header_col _ _ rfl⟩

theorem EncodeShape.tri (x0 y0 x1 y1 x2 y2 : Word) (col : Nibble) : EncodeShape.Statement (.tri x0 y0 x1 y1 x2 y2 col) :=
  fun _ => ⟨.tri, 0, col, _, rfl, rfl, ofHeader_header_col _ _ rfl⟩

theorem EncodeShape.ftri (x0 y0 x1 y1 x2 y2 : Word) (col : Nibble) : EncodeShape.Statement (.ftri x0 y0 x1 y1 x2 y2 col) :=
  fun _ => ⟨.ftri, 0, col, _, rfl, rfl, ofHeader_header_col _ _ rfl⟩

theorem EncodeShape.char (x y : Word) (ch size : Byte) (bg fg : Nibble) : EncodeShape.Statement (.char x y ch size bg fg) :=
  fun _ => ⟨.char, bg, fg, _, rfl, rfl, ofHeader_header_aux _ _ _ rfl⟩

theorem EncodeShape.char1 (x y w3 : Word) (bg fg : Nibble) : EncodeShape.Statement (.char1 x y w3 bg fg) :=
  fun _ => ⟨.char1, bg, fg, _, rfl, rfl, ofHeader_header_aux _ _ _ rfl⟩

theorem EncodeShape.hitspan (y h : Word) : EncodeShape.Statement (.hitspan y h) :=
  fun _ => ⟨.hitspan, 0, 0, _, rfl, rfl, ofHeader_header_fixed _ rfl⟩

theorem EncodeShape.hitglyph (y w2 : Word) : EncodeShape.Statement (.hitglyph y w2) :=
  fun _ => ⟨.hitglyph, 0, 0, _, rfl, rfl, ofHeader_header_fixed _ rfl⟩

end Sys2Proof.Laws
end

