-- ==== Sys2Proof/Laws/Shapes.lean ====
section
/-! SUPPORT. Which pixels the shared span procedures attempt, and that drawing keeps the canonical form of `BUF`. -/

namespace Sys2Proof.Machine

/-- `VLine` attempts rows `y .. y+h-1` of column `x` (R161). -/
theorem mem_vlinePoints (x y h px py : Int) : (px, py) ∈ vlinePoints x y h ↔ Claims.OnVLine x y h px py := by
  simp only [vlinePoints, List.mem_map, List.mem_range, Prod.mk.injEq, Claims.OnVLine]
  constructor
  · rintro ⟨k, hk, rfl, rfl⟩; omega
  · rintro ⟨rfl, h1, h2⟩; exact ⟨(py - y).toNat, by omega, rfl, by omega⟩

/-- `HLine` attempts columns `x .. x+w-1` of row `y` (R162). -/
theorem mem_hlinePoints (x y w px py : Int) : (px, py) ∈ hlinePoints x y w ↔ Claims.OnHLine x y w px py := by
  simp only [hlinePoints, List.mem_map, List.mem_range, Prod.mk.injEq, Claims.OnHLine]
  constructor
  · rintro ⟨k, hk, rfl, rfl⟩; omega
  · rintro ⟨rfl, h1, h2⟩; exact ⟨(px - x).toNat, by omega, by omega, rfl⟩

/-- A span of the triangle fill reaches from the lesser crossing to the greater (R202). -/
theorem mem_spanPoints (a b y px py : Int) : (px, py) ∈ spanPoints a b y ↔ py = y ∧ Claims.Between a b px := by
  unfold spanPoints Claims.Between
  split <;> rw [mem_hlinePoints] <;> unfold Claims.OnHLine <;> omega

/-- A block of the glyph cell is a `size` × `size` square (R211). -/
theorem mem_blockPoints (x y : Int) (size i j : Nat) (px py : Int) :
    (px, py) ∈ blockPoints x y size i j ↔
      x + i * size ≤ px ∧ px < x + i * size + size ∧ y + j * size ≤ py ∧ py < y + j * size + size := by
  simp only [blockPoints, List.mem_flatMap, List.mem_map, List.mem_range, Prod.mk.injEq]
  constructor
  · rintro ⟨a, ha, b, hb, rfl, rfl⟩; omega
  · rintro ⟨h1, h2, h3, h4⟩
    exact ⟨(px - (x + i * size)).toNat, by omega, (py - (y + j * size)).toNat, by omega, by omega, by omega⟩

/-- A pixel write keeps the canonical form of `BUF` (R70). -/
theorem State.drawPixel_wf (s : State) (p : Point) (c : Bool) (h : Memory.wf s.build.width s.buf = true) :
    Memory.wf s.build.width (s.drawPixel p c).buf = true := by
  rcases s.drawPixel_cases p c with ⟨_, e⟩ | ⟨_, _, _, e⟩ | ⟨_, _, _, e⟩ | ⟨_, h0, hw, e⟩ <;> rw [e]
  · exact h
  · exact h
  · exact h
  · exact Memory.wf_write (by omega) h

/-- A drawing command keeps the canonical form of `BUF`. -/
theorem State.drawAll_wf (ps : List (Point × Bool)) (s : State) (h : Memory.wf s.build.width s.buf = true) :
    Memory.wf s.build.width (s.drawAll ps).buf = true := by
  induction ps generalizing s with
  | nil => exact h
  | cons p ps ih =>
    have hp := s.drawPixel_wf p.1 p.2 h
    have := ih (s.drawPixel p.1 p.2) (by rwa [State.drawPixel_build])
    rwa [State.drawPixel_build] at this

/-- After reset nothing is listed, so the canonical form holds (R60, R262). -/
theorem State.resetWith_wf (p : Params) : Memory.wf p.width (State.resetWith p).buf = true := rfl

end Sys2Proof.Machine
end

