-- ==== Sys2Proof/Tests/Slice0.lean ====
section
/-! SUPPORT. Tests: the checks of WellFormed, the decoder on words written out by hand from `30_encoding.md` (R92, R96, R105),
the meanings on vectors of `95_test_vectors.md`, and for every statement with hypotheses a state and operands that meet them. -/

namespace Sys2Proof.Tests

open Sys2Proof.Machine Sys2Proof.Claims

/-! ### Helpers -/

/-- The parameters of the vectors of `95_test_vectors.md`, with the example glyph entry 65. -/
def params (boundsCheck : Bool) (tickw : Nat) : Params :=
  { width := 16, height := 64, boundsCheck := boundsCheck, tickw := tickw,
    glyph := [(325, 0x7C), (326, 0x12), (327, 0x11), (328, 0x12), (329, 0x7C)] }

/-- A block with a given cursor and every column byte `fill`. -/
def board (cur : Nat) (fill : Byte) : State :=
  { State.resetWith (params true 32) with cursor := cur, buf := Memory.filled 16 fill }

/-- The same with the bounds check off. -/
def unchecked (cur : Nat) : State :=
  { State.resetWith (params false 32) with cursor := cur, buf := Memory.filled 16 0 }

/-- A block between frames: `framePeriod = 16`, and the columns of the `POLL` vectors. -/
def pacer (tickw t nfs lfs : Nat) (fc : BitVec 16) (pf : Bool) (cur : Nat) : State :=
  { State.resetWith (params true tickw) with
    frameRate := 60, framePeriod := 16, tickCount := t, nextFrameStart := nfs, lastFrameStart := lfs,
    frameCounter := fc, pendingFlush := pf, cursor := cur }

/-- `n` columns from `x0` on, after an outcome. -/
def columns (o : Host.Outcome State Fault Refusal) (x0 n : Nat) : List Byte :=
  match o with
  | .next t => (List.range n).map fun k => t.column (x0 + k)
  | .fault _ => []
  | .refused _ => []

/-- A view of the next state, if there is one. -/
def view {α : Type} (o : Host.Outcome State Fault Refusal) (f : State → α) : Option α :=
  match o with
  | .next t => some (f t)
  | .fault _ => none
  | .refused _ => none

/-! ### WellFormed: each check refuses an ill-formed term (R95, R99) -/

theorem test_fcircleq_sides_illFormed : ¬ (Instr.fcircleq 10 10 4 0 4 1).WellFormed := by decide

theorem test_fcircleq_upper_side_bit_illFormed : ¬ (Instr.fcircleq 10 10 4 0 8 1).WellFormed := by decide

theorem test_fcircleq_wellFormed : (Instr.fcircleq 10 10 4 0xFFFF 3 15).WellFormed := by decide

theorem test_char1_high_byte_illFormed : ¬ (Instr.char1 0 0 0x0141 0 1).WellFormed := by decide

theorem test_char1_wellFormed : (Instr.char1 0 0 0x00FF 15 15).WellFormed := by decide

theorem test_hitglyph_high_byte_illFormed : ¬ (Instr.hitglyph 0 0x8000).WellFormed := by decide

theorem test_hitglyph_wellFormed : (Instr.hitglyph 0x8000 0x00FF).WellFormed := by decide

/-! ### Decoding: words written out from the rows of R96 -/

theorem test_decode_pacer :
    decode [0x0100, 0x03E9] = .command (.setrate 1001) [] ∧ decode [0x0200] = .command .poll [] ∧
    decode [0x0300] = .command .load [] ∧ decode [0x0400, 0x0004] = .command (.everyn 4) [] ∧
    decode [0x0500] = .command .faults [] := by decide

theorem test_decode_band :
    decode [0x1000] = .command .needs [] ∧ decode [0x1109] = .command (.clear 9) [] ∧
    decode [0x120F, 0x0003, 0x000A] = .command (.pixel 3 10 15) [] ∧ decode [0x1300] = .command .flush [] := by
  decide

theorem test_decode_lines :
    decode [0x2001, 2, 6, 4] = .command (.vline 2 6 4 1) [] ∧
    decode [0x2102, 0xFFFE, 3, 5] = .command (.hline 0xFFFE 3 5 2) [] ∧
    decode [0x2201, 0xFFFD, 0xFFFF, 4, 2] = .command (.line 0xFFFD 0xFFFF 4 2 1) [] ∧
    decode [0x2301, 0, 4, 5, 8] = .command (.rect 0 4 5 8 1) [] ∧
    decode [0x2400, 1, 2, 7, 3] = .command (.frect 1 2 7 3 0) [] := by decide

theorem test_decode_circles :
    decode [0x3001, 4, 8, 3] = .command (.circle 4 8 3 1) [] ∧
    decode [0x3181, 4, 5, 3] = .command (.circleq 4 5 3 8 1) [] ∧
    decode [0x3200, 4, 5, 2] = .command (.fcircle 4 5 2 0) [] ∧
    decode [0x3321, 4, 3, 2, 1] = .command (.fcircleq 4 3 2 1 2 1) [] ∧
    decode [0x3401, 0, 2, 6, 12, 3] = .command (.rrect 0 2 6 12 3 1) [] ∧
    decode [0x3501, 0, 2, 6, 12, 3] = .command (.frrect 0 2 6 12 3 1) [] := by decide

theorem test_decode_triangles :
    decode [0x4001, 1, 2, 3, 4, 5, 6] = .command (.tri 1 2 3 4 5 6 1) [] ∧
    decode [0x410F, 1, 2, 3, 4, 5, 6] = .command (.ftri 1 2 3 4 5 6 15) [] := by decide

theorem test_decode_glyphs :
    decode [0x5027, 1, 5, 0x0341] = .command (.char 1 5 65 3 2 7) [] ∧
    decode [0x5101, 2, 3, 0x0041] = .command (.char1 2 3 65 0 1) [] := by decide

theorem test_decode_predicates :
    decode [0x6000, 0xFFFB, 6] = .command (.hitspan 0xFFFB 6) [] ∧
    decode [0x6100, 0xFFFC, 255] = .command (.hitglyph 0xFFFC 255) [] := by decide

/-- The illegal commands of R105, the `CHAR1` among them with its next word left in the channel. -/
theorem test_decode_illegal :
    decode [0x5101, 0, 0, 0x0141, 0x0200] = .illegal .operandNotZero [0x0200] ∧
    decode [0x6100, 0, 0x0100] = .illegal .operandNotZero [] ∧
    decode [0x3341, 1, 2] = .illegal .noSuchHeader [1, 2] ∧ decode [0x1301] = .illegal .noSuchHeader [] ∧
    decode [0x5101, 0, 0] = .incomplete ∧ decode [] = .incomplete := by decide

/-- A row's bits as the opcode table numbers them: the header is the low word, an operand the table leaves out is 0. -/
theorem test_decodeTableWord :
    decodeTableWord 48 0x000400031201 = some (.pixel 3 4 1) ∧ decodeTableWord 16 0x2001 = some (.vline 0 0 0 1) ∧
    decodeTableWord 64 0x0341000500015027 = some (.char 1 5 65 3 2 7) ∧
    decodeTableWord 16 0x0201 = none := by decide

theorem test_withFetchWord_runs :
    (view (step (State.reset.withFetchWord 32 0x003C0100)) fun t => (t.frameRate, t.framePeriod, t.channel)) =
      some (60, 16, []) := by decide

/-! ### The pacer (`95_test_vectors.md` 2.1) -/

theorem test_setrate :
    view (exec (.setrate 60) (board 0 0)) (·.framePeriod) = some 16 ∧
    view (exec (.setrate 65535) (board 0 0)) (·.framePeriod) = some 1 := by decide

theorem test_setrate_zero :
    (view (exec (.setrate 0) (pacer 32 0 0 0 0 false 0)) fun t => (t.frameRate, t.framePeriod, t.fault)) =
      some (60, 16, 0b0010#4) := by decide

/-- Vector P1. -/
theorem test_poll_late :
    (view (exec .poll (pacer 32 20 16 0 4 true 40)) fun t =>
      (t.responses, t.nextFrameStart, t.lastFrameStart, t.lastFrameDuration, t.frameCounter, t.cursor)) =
      some ([1], 36, 20, 20, 5, 0) := by decide

/-- Vector W2: early across a wrap of the counter, so the block sleeps until the next tick. -/
theorem test_poll_early_wrapped :
    (view (exec .poll (pacer 12 4094 10 4090 0 true 0)) fun t =>
      (t.sleeping, t.responses, t.tick.sleeping, t.tick.responses, t.tick.tickCount, t.lastFrameDuration)) =
      some (true, [], false, [0], 4095, 4) := by decide

theorem test_load :
    view (exec .load { pacer 32 0 0 0 0 false 0 with lastFrameDuration := 2 ^ 32 - 1 }) (·.responses) =
      some [26843545593] := by decide

theorem test_load_unset : (view (exec .load (board 0 0)) fun t => (t.responses, t.fault)) = some ([0], 0b0010#4) := by
  decide

theorem test_everyn :
    view (exec (.everyn 3) (pacer 32 0 0 0 65535 false 0)) (·.responses) = some [1] ∧
    view (exec (.everyn 4) (pacer 32 0 0 0 6 false 0)) (·.responses) = some [0] := by decide

theorem test_everyn_zero :
    (view (exec (.everyn 0) (pacer 32 0 0 0 7 false 0)) fun t => (t.responses, t.fault)) = some ([0], 0b0010#4) := by
  decide

theorem test_faults :
    (view (exec .faults { board 64 0 with fault := 0b0110#4 }) fun t => (t.responses, t.fault)) =
      some ([6], 0b0110#4) := by decide

/-! ### The band (2.2) -/

theorem test_needs :
    view (exec .needs (board 56 0)) (·.responses) = some [1] ∧
    view (exec .needs (board 64 0)) (·.responses) = some [0] := by decide

theorem test_clear : columns (exec (.clear 9) (board 8 0)) 0 16 = List.replicate 16 0xFF#8 := by decide

theorem test_pixel :
    columns (exec (.pixel 3 10 15) (board 8 0)) 2 3 = [0x00, 0x04, 0x00] ∧
    columns (exec (.pixel 3 10 0) (board 8 0xFF)) 3 1 = [0xFB] := by decide

/-- R150: with the bounds check off and the cursor at HEIGHT, rows from 64 on are still drawn, and an x off the edge is OOB. -/
theorem test_pixel_unchecked :
    columns (exec (.pixel 0 64 1) (unchecked 64)) 0 1 = [0x01] ∧
    view (exec (.pixel 0xFFFF 64 1) (unchecked 64)) (·.fault) = some 0b1000#4 := by decide

theorem test_flush :
    (view (exec .flush (board 56 0x5A)) fun t => (t.cursor, t.paints)) =
      some (64, [{ cursor := 56, bytes := List.replicate 16 0x5A#8 }]) := by decide

theorem test_flush_refused :
    (view (exec .flush (board 64 0x5A)) fun t => (t.cursor, t.paints, t.fault)) = some (64, [], 0b0100#4) := by
  decide

/-! ### Lines and rectangles (2.3) -/

theorem test_vline : columns (exec (.vline 2 0xFFFD 5 1) (board 0 0)) 1 3 = [0x00, 0x03, 0x00] := by decide

theorem test_hline : columns (exec (.hline 0xFFFE 3 5 1) (board 0 0)) 0 4 = [0x08, 0x08, 0x08, 0x00] := by
  decide

theorem test_line : columns (exec (.line 0xFFFD 0xFFFF 4 2 1) (board 0 0)) 0 6 = [0x01, 0x02, 0x02, 0x04, 0x04, 0x00] := by
  decide

theorem test_line_steep : columns (exec (.line 0 0 3 15 1) (board 8 0)) 0 5 = [0x00, 0x00, 0x1F, 0xE0, 0x00] := by
  decide

theorem test_rect : columns (exec (.rect 0 4 5 8 1) (board 8 0)) 0 6 = [0x0F, 0x08, 0x08, 0x08, 0x0F, 0x00] := by
  decide

theorem test_frect : columns (exec (.frect 1 2 2 3 0) (board 0 0xFF)) 0 4 = [0xFF, 0xE3, 0xE3, 0xFF] := by
  decide

/-! ### Circles and rounded rectangles (2.4) -/

theorem test_circle :
    columns (exec (.circle 4 4 3 1) (board 0 0)) 0 9 = [0x00, 0x38, 0x44, 0x82, 0x82, 0x82, 0x44, 0x38, 0x00] := by
  decide

theorem test_circleq :
    columns (exec (.circleq 4 4 3 5 1) (board 0 0)) 0 9 = [0x00, 0x08, 0x04, 0x02, 0x00, 0x80, 0x40, 0x20, 0x00] := by
  decide

theorem test_fcircle :
    columns (exec (.fcircle 4 4 2 0) (board 0 0xFF)) 1 7 = [0xFF, 0xC7, 0x83, 0x83, 0x83, 0xC7, 0xFF] := by
  decide +kernel

theorem test_fcircleq :
    columns (exec (.fcircleq 4 4 3 0xFFFE 3 1) (board 0 0)) 1 7 = [0x08, 0x1C, 0x3E, 0x00, 0x3E, 0x1C, 0x08] := by
  decide

theorem test_rrect :
    columns (exec (.rrect 0 0 8 6 9 1) (board 0 0)) 0 9 =
      [0x0C, 0x12, 0x21, 0x21, 0x21, 0x21, 0x12, 0x0C, 0x00] := by decide

theorem test_frrect :
    columns (exec (.frrect 0 0 8 8 100 1) (board 0 0)) 0 9 =
      [0x18, 0x7E, 0x7E, 0xFF, 0xFF, 0x7E, 0x7E, 0x18, 0x00] := by decide +kernel

/-! ### Triangles (2.5) -/

theorem test_tri :
    columns (exec (.tri 3 0 0 6 6 6 1) (board 0 0)) 0 8 = [0x40, 0x70, 0x4C, 0x43, 0x4C, 0x70, 0x40, 0x00] := by
  decide

theorem test_ftri :
    columns (exec (.ftri 6 0 0 3 6 7 1) (board 0 0)) 0 8 = [0x08, 0x18, 0x1C, 0x3C, 0x7E, 0x7E, 0xFF, 0x00] := by
  decide

theorem test_ftri_lower_band :
    columns (exec (.ftri 2 1 7 12 0 9 1) (board 8 0)) 0 9 =
      [0x02, 0x03, 0x07, 0x07, 0x0F, 0x0F, 0x0C, 0x10, 0x00] := by decide +kernel

/-! ### Glyphs (2.6) -/

theorem test_char_equal_colours :
    columns (exec (.char 0 0 65 1 0 0) (board 0 0xFF)) 0 6 = [0x83, 0xED, 0xEE, 0xED, 0x83, 0xFF] := by decide

theorem test_char_scaled :
    columns (exec (.char 0 0 65 2 0 1) (board 8 0)) 0 6 = [0x3F, 0x3F, 0x03, 0x03, 0x03, 0x03] := by decide +kernel

theorem test_char1 :
    columns (exec (.char1 0xFFFD 0xFFFE 65 0 1) (board 0 0xFF)) 0 4 = [0xC4, 0xDF, 0xC0, 0xFF] := by decide +kernel

theorem test_char1_illegal :
    (view (exec (.char1 0 0 0x0141 0 1) (board 0 0)) fun t => (t.fault, t.locked)) = some (0b0001#4, true) := by
  decide

/-! ### Predicates (2.7) -/

theorem test_hitspan :
    view (exec (.hitspan 0xFFFB 6) (board 0 0)) (·.responses) = some [1] ∧
    view (exec (.hitspan 0x7FFF 0x7FFF) (board 0 0)) (·.responses) = some [0] := by decide

theorem test_hitglyph :
    view (exec (.hitglyph 0xF848 255) (board 56 0)) (·.responses) = some [1] ∧
    view (exec (.hitglyph 0 2) (board 16 0)) (·.responses) = some [0] := by decide

/-! ### Witnesses: for every statement with hypotheses, a state and operands that meet them together

`witness_<Name>` belongs to `Obligations.<Name>`; where the statement has several clauses there is a witness for each, at a
boundary of its range. -/

/-- `board 8` with a fault that locked the block, two words in the channel and a given schedule. -/
def lockedBoard (sch : List Turn) : State :=
  { board 8 0 with fault := 0b0001#4, locked := true, channel := [0x0200, 0x1300], schedule := sch }

/-- A block with words held and words in the channel. -/
def fed (held channel : List Word) : State := { board 8 0 with held := held, channel := channel }

theorem inv_board : (board 0 0).Inv ∧ (board 8 0).Inv ∧ (board 56 0x5A).Inv ∧ (board 64 0x5A).Inv := by
  refine ⟨?_, ?_, ?_, ?_⟩ <;> constructor <;> decide

theorem inv_pacer : (pacer 12 4090 4090 4070 65535 true 0).Inv ∧ (pacer 32 20 16 0 4 true 40).Inv := by
  refine ⟨?_, ?_⟩ <;> constructor <;> decide

theorem witness_DecodeEncodeRoundTrip :
    (Instr.fcircleq 10 10 4 0xFFFF 3 15).WellFormed ∧ (Instr.char1 0 0 0x00FF 15 15).WellFormed := by decide

theorem witness_DecodeReadsExactlyOneEncoding :
    decode [0x3330#16, 10, 10, 4, 0xFFFF, 0x0200] = .command (.fcircleq 10 10 4 0xFFFF 3 0) [0x0200] := by
  decide

theorem witness_DecodeWaitsForAllWords :
    (Instr.tri 1 2 3 4 5 6 1).WellFormed ∧ 0 < (encode (.tri 1 2 3 4 5 6 1)).length ∧
    6 < (encode (.tri 1 2 3 4 5 6 1)).length := by decide

/-- (a) the smallest header and one must-be-zero bit of `FCIRCLEQ`; (b) the least nonzero high byte of each operand. -/
theorem witness_IllegalCommandLocks :
    ((fed [] [0x0000, 7]).schedule = [] ∧ (fed [] [0x0000, 7]).locked = false ∧
      (fed [] [0x0000, 7]).sleeping = false ∧ (fed [] [0x0000, 7]).held ++ (fed [] [0x0000, 7]).channel = [0x0000, 7] ∧
      (∀ o ∈ Opcode.all, 0x0000#16 &&& o.mask ≠ o.pattern) ∧ ∀ o ∈ Opcode.all, 0x3341#16 &&& o.mask ≠ o.pattern) ∧
    ((fed [0x5101, 0] [0, 0x0100]).held ++ (fed [0x5101, 0] [0, 0x0100]).channel = [0x5101, 0, 0, 0x0100] ∧
      0x5101#16 &&& 0xFF00#16 = 0x5100#16 ∧ 0x0100#16 >>> 8 ≠ 0) ∧
    ((fed [0x6100] [0, 0x0100]).held ++ (fed [0x6100] [0, 0x0100]).channel = [0x6100, 0, 0x0100]) ∧
    ((lockedBoard []).schedule = [] ∧ (lockedBoard []).locked = true) := by decide

theorem inv_lockedBoard :
    (lockedBoard []).Inv ∧ (lockedBoard [.tick]).Inv ∧ (lockedBoard [.reset]).Inv := by
  refine ⟨?_, ?_, ?_⟩ <;> constructor <;> decide

theorem witness_LockedBlockDiscards :
    ((lockedBoard [.tick]).Inv ∧ (lockedBoard [.tick]).locked = true ∧ (∃ t, step (lockedBoard [.tick]) = .next t) ∧
      (lockedBoard [.tick]).nextTurn ≠ .reset) ∧
    ((lockedBoard []).Inv ∧ (∃ t, step (lockedBoard []) = .next t) ∧ (lockedBoard []).nextTurn ≠ .tick ∧
      (lockedBoard []).nextTurn = .engine) ∧
    ((lockedBoard [.reset]).Inv ∧ (∃ t, step (lockedBoard [.reset]) = .next t) ∧
      (lockedBoard [.reset]).nextTurn = .reset) :=
  ⟨⟨inv_lockedBoard.2.1, rfl, ⟨_, rfl⟩, by decide⟩, ⟨inv_lockedBoard.1, ⟨_, rfl⟩, by decide, rfl⟩,
    ⟨inv_lockedBoard.2.2, ⟨_, rfl⟩, rfl⟩⟩

theorem witness_StepRunsDecodedCommand :
    ((Instr.pixel 3 10 1).WellFormed ∧ (fed [0x1201] [3, 10, 0x0200]).schedule = [] ∧
      (fed [0x1201] [3, 10, 0x0200]).locked = false ∧ (fed [0x1201] [3, 10, 0x0200]).sleeping = false ∧
      (fed [0x1201] [3, 10, 0x0200]).held ++ (fed [0x1201] [3, 10, 0x0200]).channel =
        encode (.pixel 3 10 1) ++ [0x0200]) ∧
    (Instr.flush.WellFormed ∧ { fed [] [0x1300] with schedule := [.engine, .tick] }.schedule = .engine :: [.tick] ∧
      (fed [] [0x1300]).held ++ (fed [] [0x1300]).channel = encode .flush ++ [] ∧
      (fed [] [0x1300]).cursor < (fed [] [0x1300]).build.height ∧ (fed [] [0x1300]).transportReady = true) ∧
    decodeTableWord 16 0x1300 = some .flush := by decide

theorem witness_IdleTurns :
    ({ board 8 0 with sleeping := true }.schedule = [] ∧ { board 8 0 with sleeping := true }.locked = false) ∧
    ((fed [0x1201] [3]).schedule = [] ∧ (fed [0x1201] [3]).locked = false ∧ (fed [0x1201] [3]).sleeping = false ∧
      decode ((fed [0x1201] [3]).held ++ (fed [0x1201] [3]).channel) = .incomplete) ∧
    ({ board 56 0 with channel := [0x1300], transportReady := false }.held ++
        { board 56 0 with channel := [0x1300], transportReady := false }.channel = 0x1300#16 :: [] ∧
      (board 56 0).cursor < (board 56 0).build.height) ∧
    { board 8 0 with schedule := [.hostSend 7] }.schedule = .hostSend 7 :: [] ∧
    { board 8 0 with schedule := [.hostRead] }.schedule = .hostRead :: [] ∧
    { board 8 0 with schedule := [.transport false] }.schedule = .transport false :: [] := by decide

theorem witness_WordsOneAtATime :
    (Instr.char1 1 5 0x00FF 0 1).WellFormed ∧ (board 8 0).locked = false ∧ (board 8 0).sleeping = false ∧
    (board 8 0).held = [] ∧ (board 8 0).channel = [] ∧ (board 8 0).transportReady = true := by decide

theorem witness_StepKeepsInvariant : (board 8 0).Inv ∧ ∃ t, step (board 8 0) = .next t := ⟨inv_board.2.1, _, rfl⟩

theorem witness_ResetMeetsInvariant :
    { params true 32 with width := 1, height := 8, tickw := 12 }.Legal ∧
    { params false 32 with width := 32767, height := 32760 }.Legal := by decide

theorem witness_ResetEvent :
    { board 8 0xFF with schedule := [.reset, .tick] }.schedule = .reset :: [.tick] := rfl

theorem witness_TickEvent :
    { board 8 0 with schedule := [.tick] }.schedule = .tick :: [] ∧ (board 8 0).nextTurn ≠ .tick ∧
    (board 8 0).nextTurn ≠ .reset ∧ ∃ t, step (board 8 0) = .next t :=
  ⟨rfl, by decide, by decide, _, rfl⟩

theorem witness_SetrateResult : (0 : Word) = 0 ∧ (1 : Word) ≠ 0 ∧ (0xFFFF : Word) ≠ 0 := by decide

/-- Grants at tick 4090 of a 12-bit counter with period 16: one tick early, just in time, and as late as the claim allows. -/
theorem witness_GrantsArePeriodApart : ∀ k ∈ [15, 16, 2064], ∃ s₁ s₂ t,
    (pacer 12 4090 4090 4070 65535 true 0).Inv ∧ exec .poll (pacer 12 4090 4090 4070 65535 true 0) = .next s₁ ∧
    s₁.pendingFlush = true ∧ s₂.build = (pacer 12 4090 4090 4070 65535 true 0).build ∧
    s₂.nextFrameStart = s₁.nextFrameStart ∧ s₂.tickCount = (4090 + k) % 2 ^ 12 ∧ k ≤ 16 + 2 ^ (12 - 1) ∧
    exec .poll s₂ = .next t := by
  intro k hk
  simp only [List.mem_cons, List.not_mem_nil, or_false] at hk
  rcases hk with rfl | rfl | rfl
  · exact ⟨_, { pacer 12 9 10 4090 0 true 0 with lastFrameDuration := 20 }, _, inv_pacer.1, rfl, rfl, rfl, rfl, rfl,
      by decide, rfl⟩
  · exact ⟨_, { pacer 12 10 10 4090 0 true 0 with lastFrameDuration := 20 }, _, inv_pacer.1, rfl, rfl, rfl, rfl, rfl,
      by decide, rfl⟩
  · exact ⟨_, { pacer 12 2058 10 4090 0 true 0 with lastFrameDuration := 20 }, _, inv_pacer.1, rfl, rfl, rfl, rfl,
      rfl, by decide, rfl⟩

/-- The boot order of R264, with two ticks on the way; and the bound at its end. -/
theorem witness_FirstPollAfterResetGrants :
    (board 8 0xFF).build.Legal ∧ Event.command .poll ∉ [Event.command (.setrate 60), .tick, .command (.clear 0), .tick] ∧
    [Event.command (.setrate 60), .tick, .command (.clear 0), .tick].count .tick ≤
      2 ^ ((board 8 0xFF).build.tickw - 1) ∧
    (∃ t, runEvents [.command (.setrate 60), .tick, .command (.clear 0), .tick] (board 8 0xFF).doReset = .next t) ∧
    (List.replicate 2048 Event.tick).count .tick ≤ 2 ^ ((pacer 12 0 0 0 0 false 0).build.tickw - 1) :=
  ⟨by decide, by decide, by decide, ⟨_, rfl⟩, by rw [List.count_replicate_self]; decide⟩

theorem witness_ModularClockAgrees :
    (1 ≤ 12 ∧ 4095 + 2 ^ 11 ≤ 4095 + 2 ^ (12 - 1) ∧ 4095 < 4095 + 2 ^ 11 + 2 ^ (12 - 1)) ∧
    (4095 + 2047 < 4095 + 2 ^ (12 - 1)) ∧ 4095 < 2 ^ 12 := by decide

theorem witness_LoadResult :
    { pacer 32 0 0 0 0 false 0 with lastFrameDuration := 2 ^ 32 - 1 }.lastFrameDuration < 2 ^ 32 ∧
    (pacer 32 0 0 0 0 false 0).framePeriod ≠ 0 ∧ (board 0 0).framePeriod = 0 ∧
    (board 0 0).lastFrameDuration < 2 ^ (board 0 0).build.tickw := by decide

theorem witness_LoadExceedsHundredOnEveryOverrun :
    ∀ d ∈ [16, 17], { pacer 32 0 0 0 0 false 0 with lastFrameDuration := d }.Inv ∧
      { pacer 32 0 0 0 0 false 0 with lastFrameDuration := d }.framePeriod ≠ 0 ∧
      (d = (pacer 32 0 0 0 0 false 0).framePeriod.toNat ∨ (pacer 32 0 0 0 0 false 0).framePeriod.toNat < d) := by
  intro d hd
  refine ⟨?_, (by decide : (16 : BitVec 16) ≠ 0), by revert d; decide⟩
  simp only [List.mem_cons, List.not_mem_nil, or_false] at hd
  rcases hd with rfl | rfl <;> constructor <;> decide

theorem witness_EverynResult : (0 : Word) = 0 ∧ (1 : Word) ≠ 0 ∧ (0xFFFF : Word) ≠ 0 := by decide

theorem witness_ClearResult : 0 < (board 8 0).build.width ∧ 15 < (board 8 0).build.width := by decide

theorem witness_OffBandPixelDiscarded :
    ((7 : Word).toInt < ((board 8 0).cursor : Int)) ∧ (((board 8 0).cursor : Int) + 8 ≤ (16 : Word).toInt) := by decide

theorem witness_FaultsResult : (board 64 0x5A).Inv ∧ (board 64 0x5A).locked = false := ⟨inv_board.2.2.2, rfl⟩

theorem witness_FlushResult :
    ((board 56 0x5A).Inv ∧ (board 56 0x5A).cursor < (board 56 0x5A).build.height) ∧
    ((board 64 0x5A).Inv ∧ (board 64 0x5A).cursor = (board 64 0x5A).build.height) :=
  ⟨⟨inv_board.2.2.1, by decide⟩, ⟨inv_board.2.2.2, rfl⟩⟩

theorem witness_FlushSequence :
    (board 0 0).Inv ∧ (board 0 0).cursor = 0 ∧ 0 ≤ (board 0 0).build.nbands ∧ 8 ≤ (board 0 0).build.nbands :=
  ⟨inv_board.1, rfl, by decide, by decide⟩

/-- A run with ticks and an early `POLL` in the middle of a frame. -/
theorem witness_PaintCountBound :
    (pacer 32 8 18 2 0 true 0).Inv ∧
    noGrant [.command .flush, .command .poll, .tick, .command .flush] (pacer 32 8 18 2 0 true 0) = true ∧
    ∃ t, runEvents [.command .flush, .command .poll, .tick, .command .flush] (pacer 32 8 18 2 0 true 0) = .next t :=
  ⟨by constructor <;> decide, rfl, _, rfl⟩

theorem test_noGrant_sees_a_grant : noGrant [.command .poll] (pacer 32 20 16 0 4 true 40) = false := rfl

/-- The last `FLUSH` of a frame, one before it, one refused, a granting and an early `POLL`, and another command. -/
theorem witness_BandStateMachine :
    (board 56 0x5A).Inv ∧ (∃ t, exec .flush (board 56 0x5A) = .next t) ∧ (board 56 0x5A).bandState ≠ .exhausted ∧
    (board 56 0x5A).cursor + 8 = (board 56 0x5A).build.height ∧
    (board 8 0).bandState ≠ .exhausted ∧ (board 8 0).cursor + 8 < (board 8 0).build.height ∧
    (board 64 0x5A).bandState = .exhausted ∧ Instr.needs ≠ .poll ∧ Instr.needs ≠ .flush ∧
    view (exec .poll (pacer 32 20 16 0 4 true 40)) (·.pendingFlush) = some true ∧
    view (exec .poll (pacer 32 8 18 2 0 true 0)) (·.pendingFlush) = some false ∧
    (board 0 0).build.Legal := by
  refine ⟨inv_board.2.2.1, ⟨_, rfl⟩, ?_⟩
  decide

/-- The last column is at the greatest operand, 32767. -/
theorem witness_FrectEqualsVlines :
    (board 0 0).Inv ∧ (32766 : Word).toInt + (2 : Word).toInt ≤ 32768 ∧
    List.Perm [Instr.vline 32767 1 4 1, .vline 32766 1 4 1] (vlineColumns 32766 1 4 2 1) :=
  ⟨inv_board.1, by decide, List.Perm.swap _ _ _⟩

theorem witness_OctantFacts : ((1, 3) : Point) ∈ octant 3 ∧ (3 : Int).toNat ≤ 5 := by decide

theorem witness_FcircleqResult : (3 : Nibble).toNat < 4 ∧ 4 ≤ (4 : Nibble).toNat := by decide

theorem witness_RoundedRectBounds :
    ((1, 1) : Point) ∈ rrectPoints 1 1 4 3 0 ∧ ((1, 0) : Point) ∈ frrectPoints 0 0 3 2 1 ∧
    (0 : Word).toInt ≤ 0 ∧ (0xFFFB : Word).toInt ≤ 0 ∧ (1 : Word).toInt ≤ 1 := by decide

theorem witness_VertexOrderIrrelevant :
    (board 0 0).Inv ∧
    List.Perm [((2 : Word), (1 : Word)), (7, 12), (0, 9)] [(7, 12), (2, 1), (0, 9)] :=
  ⟨inv_board.1, List.Perm.swap _ _ _⟩

/-- A flat bottom: the two lower vertices on one row. -/
theorem witness_FtriResult : SortedVertices 0 6 3 0 6 6 (3, 0) (0, 6) (6, 6) :=
  ⟨List.Perm.swap _ _ _, by decide, by decide⟩

theorem witness_Char1Result : (0x00FF : Word).toNat < 256 ∧ 256 ≤ (0x0100 : Word).toNat := by decide

theorem witness_PredicateResults : (0x00FF : Word).toNat < 256 ∧ 256 ≤ (0x0100 : Word).toNat := by decide

/-- A vertical line whose last row lies just above the band, and glyphs that end there. -/
theorem witness_PredicateSoundness :
    ((Instr.vline 1 0 8 1).WellFormed ∧ (board 8 0).cursor ≤ (board 8 0).build.height ∧
      extent (.vline 1 0 8 1) = some (0, 8) ∧
      (∀ row : Int, 0 ≤ row → row < 0 + 8 → 0 ≤ row → row ≤ (board 8 0).build.height + 7 →
        (0 : Word).toInt ≤ row ∧ row < (0 : Word).toInt + (8 : Word).toInt) ∧
      exec (.hitspan 0 8) (board 8 0) = .next { board 8 0 with responses := (board 8 0).responses ++ [0] }) ∧
    exec (.hitglyph 0 ((1 : Byte).setWidth 16)) (board 8 0) =
      .next { board 8 0 with responses := (board 8 0).responses ++ [0] } ∧
    (0x00FF : Word).toNat < 256 ∧
    exec (.hitglyph 0 1) (board 8 0) = .next { board 8 0 with responses := (board 8 0).responses ++ [0] } :=
  ⟨⟨by decide, by decide, rfl, fun row h0 h8 _ _ => ⟨h0, h8⟩, rfl⟩, rfl, by decide, rfl⟩

/-- Two colours, another order and a repetition; and one list of pixels in one colour. -/
theorem witness_DrawOrderIrrelevant :
    (board 0 0).Inv ∧
    (∀ p c c', (p, c) ∈ [(((1, 2) : Point), true), ((3, 4), false)] →
      (p, c') ∈ [(((1, 2) : Point), true), ((3, 4), false)] → c = c') ∧
    (∀ p : Point × Bool, p ∈ [(((1, 2) : Point), true), ((3, 4), false)] ↔
      p ∈ [(((3, 4) : Point), false), ((1, 2), true), ((3, 4), false)]) ∧
    (∀ p : Point, p ∈ [((1, 2) : Point), (3, 4)] ↔ p ∈ [((3, 4) : Point), (1, 2), (3, 4)]) ∧
    (((0, 0) : Point), false) ∈ (board 0 0).charPoints 0 0 65 1 false true ∧
    (((0, 0) : Point), false) ∈ (board 0 0).char1Points 0 0 65 false true := by
  refine ⟨inv_board.1, ?_, fun p => ?_, fun p => ?_, by decide, by decide⟩
  · simp only [List.mem_cons, List.not_mem_nil, or_false, Prod.mk.injEq]
    rintro p c c' (⟨rfl, rfl⟩ | ⟨rfl, rfl⟩) (⟨h, rfl⟩ | ⟨h, rfl⟩) <;> simp_all
  · simp only [List.mem_cons, List.not_mem_nil, or_false]; tauto
  · simp only [List.mem_cons, List.not_mem_nil, or_false]; tauto

/-- A command that raises a fault, and one that does not. -/
theorem witness_FaultsExactlyWhenRaised :
    (∃ t, exec (.pixel 0xFFFF 64 1) (unchecked 64) = .next t ∧ t.fault.getLsbD FaultBit.oob.code = true) ∧
    ∃ t, exec (.pixel 0 64 1) (unchecked 64) = .next t ∧ t.fault.getLsbD FaultBit.oob.code = false :=
  ⟨⟨_, rfl, by decide⟩, ⟨_, rfl, by decide⟩⟩

theorem witness_OnlyListedCommandsWrite :
    (∃ t, exec .needs (board 8 0) = .next t) ∧ (∀ rate, Instr.needs ≠ .setrate rate) ∧ Instr.needs ≠ .poll ∧
    Instr.needs ≠ .flush ∧ isDrawing .needs = false ∧ (∀ col, Instr.needs ≠ .clear col) ∧
    responds (.clear 1) = false ∧ Instr.needs.WellFormed ∧ Instr.needs ≠ .load ∧ (∀ n, Instr.needs ≠ .everyn n) ∧
    (isDrawing (.pixel 0 0 1) = true ∧ (board 8 0).build.boundsCheck = true ∧ (Instr.pixel 0 0 1).WellFormed) :=
  ⟨⟨_, rfl⟩, by simp, by simp, by simp, rfl, by simp, rfl, rfl, by simp, by simp, rfl, rfl, rfl⟩

theorem witness_OneResponsePerRespondingCommand :
    (Instr.poll.WellFormed ∧ (pacer 12 4094 10 4090 0 true 0).sleeping = false ∧
      (∃ t, exec .poll (pacer 12 4094 10 4090 0 true 0) = .next t) ∧ responds .poll = true) ∧
    ((∃ t, exec (.clear 1) (board 8 0) = .next t) ∧ responds (.clear 1) = false) :=
  ⟨⟨rfl, rfl, ⟨_, rfl⟩, rfl⟩, ⟨_, rfl⟩, rfl⟩

/-- Two blocks that differ in `BUF` only, each with a `FLUSH` before it. -/
theorem witness_BufShowsOnlyInPaintEvents :
    hideBuf { board 8 0x00 with channel := [0x1300] } = hideBuf { board 8 0x5A with channel := [0x1300] } ∧
    (∃ t, Sys2Proof.core.run 1 { board 8 0x00 with channel := [0x1300] } = .next t) ∧
    ∃ t, Sys2Proof.core.run 1 { board 8 0x5A with channel := [0x1300] } = .next t :=
  ⟨rfl, ⟨_, rfl⟩, ⟨_, rfl⟩⟩

end Sys2Proof.Tests
end

section
/-! PROOFS. The invariant of the block (`State.Inv`): each operation of the state keeps it, each command keeps it, each
turn of an agent keeps it, and so every step does, with the parameters unchanged. -/

namespace Sys2Proof.Machine

variable {s : State}

/-! ### The operations of the state -/

/-- HEIGHT, and so every value that `cursor` takes, fits in CURW bits (R8, R24). -/
theorem height_lt_two_pow_curw (p : Params) : p.height < 2 ^ p.curw := Nat.lt_log2_self

/-- A difference of tick values is a number of `t` bits (R12). -/
theorem tickDiff_lt (t a b : Nat) : tickDiff t a b < 2 ^ t := by
  have hpos : (0 : Int) < ((2 ^ t : Nat) : Int) := by positivity
  have hlt := Int.emod_lt_of_pos ((a : Int) - b) hpos
  unfold tickDiff
  omega

/-- A value within the canvas height is stored in `cursor` as it is (R24). -/
theorem State.setCursor_cursor_of_le {v : Nat} (hv : v ≤ s.build.height) : (s.setCursor v).cursor = v :=
  Nat.mod_eq_of_lt (hv.trans_lt (height_lt_two_pow_curw s.build))

/-- The bytes of a paint event are as many as the columns (R65, R246). -/
@[simp] theorem State.length_bytes (s : State) : s.bytes.length = s.build.width := by simp [State.bytes]

/-- The invariant does not speak of the command channel, the readiness of the transport or the schedule. -/
theorem State.Inv.otherAgents (h : s.Inv) (ws : List Word) (ready : Bool) (sch : List Turn) :
    { s with channel := ws, transportReady := ready, schedule := sch }.Inv :=
  { h with }

/-- Every fault but ILLEGAL is raised without locking; OOB is raised only with the bounds check off (R37, R231). -/
theorem State.Inv.raise (h : s.Inv) {f : FaultBit} (hf : f ≠ .illegal)
    (hoob : f = .oob → s.build.boundsCheck = false) : (s.raise f).Inv :=
  { h with
    lockedIff := by
      have hcode : decide (0 = f.code) = false := by revert hf; cases f <;> decide
      rw [State.raise_getLsbD, hcode, Bool.or_false]
      exact h.lockedIff
    checkedNoOob := fun hb => by
      have hcode : decide (3 = f.code) = false := by
        cases f with
        | oob => exact absurd (hoob rfl) (by simpa using hb)
        | illegal | divzero | flushx => rfl
      rw [State.raise_getLsbD, hcode, Bool.or_false]
      exact h.checkedNoOob hb }

/-- A zero rate or divisor is a sticky bit that the invariant does not speak of (R231). -/
theorem State.Inv.raiseDivzero (h : s.Inv) : (s.raise .divzero).Inv := h.raise nofun nofun

/-- An illegal command locks a block that is awake and holds no words (R37, R99). -/
theorem State.Inv.lock (h : s.Inv) (hsleep : s.sleeping = false) (hheld : s.held = []) : s.lock.Inv :=
  { h with
    lockedIff := by simp [State.lock_spec]
    lockedQuiet := fun _ => ⟨hsleep, hheld⟩
    checkedNoOob := fun hb => by simpa [State.lock_spec] using h.checkedNoOob hb }

/-- The response channel holds words of RESPW bits (R101). -/
theorem State.Inv.respond (h : s.Inv) (v : Nat) : (s.respond v).Inv :=
  { h with
    responseWidth := by
      simp only [State.respond_responses, State.respond_build, List.mem_append, List.mem_singleton]
      rintro w (hw | rfl)
      · exact h.responseWidth w hw
      · exact Nat.mod_lt _ (Nat.two_pow_pos _)
    readBound := h.readBound.trans (by simp) }

/-- A paint event with a band left is of an aligned band inside the canvas (R246). -/
theorem State.Inv.paint (h : s.Inv) (hleft : s.cursor + 8 ≤ s.build.height) : s.paint.Inv :=
  { h with
    paintForm := by
      simp only [State.paint_paints, State.paint_build, List.mem_append, List.mem_singleton]
      rintro p (hp | rfl)
      · exact h.paintForm p hp
      · exact ⟨h.cursorAligned, hleft, s.length_bytes⟩ }

/-- The cursor moves to the first row of a band, or to HEIGHT (R24). -/
theorem State.Inv.setCursor (h : s.Inv) {v : Nat} (hal : v % 8 = 0) (hv : v ≤ s.build.height) :
    (s.setCursor v).Inv :=
  { h with
    cursorAligned := by rw [State.setCursor_cursor_of_le hv]; exact hal
    cursorRange := by rw [State.setCursor_cursor_of_le hv]; exact hv }

/-- A new buffer in canonical form (R70). -/
theorem State.Inv.withBuf (h : s.Inv) {m : Memory} (hm : Memory.wf s.build.width m = true) :
    { s with buf := m }.Inv :=
  { h with bufWf := hm }

/-- The held words of a block that is free to execute may become any words that the decoder holds (R44; log 8). -/
theorem State.Inv.withHeld (h : s.Inv) (hlock : s.locked = false) (hsleep : s.sleeping = false) {ws : List Word}
    (hws : decode ws = .incomplete ∨ ws = encode .flush) (rest : List Word) :
    { s with held := ws, channel := rest }.Inv :=
  { h with
    lockedQuiet := fun hl => absurd hl (by simp [hlock])
    sleepingQuiet := fun hs => absurd hs (by simp [hsleep])
    heldWords := hws }

/-- Accepting all the words of a command leaves none held (R44). -/
theorem State.Inv.accepted (h : s.Inv) (hlock : s.locked = false) (hsleep : s.sleeping = false) (rest : List Word) :
    (s.accepted rest).Inv :=
  h.withHeld hlock hsleep (.inl rfl) rest

/-- `SETRATE` sets the period that belongs to the rate (R26, R121). -/
theorem State.Inv.setRate (h : s.Inv) {rate : Word} (hrate : unsigned rate ≠ 0) :
    { s with frameRate := rate, framePeriod := BitVec.ofNat 16 (max 1 (1000 / unsigned rate)) }.Inv :=
  { h with
    period := by
      have hne : rate ≠ 0 := fun h0 => hrate (by rw [h0]; rfl)
      have hdiv : 1000 / unsigned rate ≤ 1000 := Nat.div_le_self _ _
      simp only [if_neg hne, BitVec.toNat_ofNat]
      exact Nat.mod_eq_of_lt (by omega) }

/-- The bookkeeping after a frame (R123). -/
theorem State.Inv.closeFrame (h : s.Inv) : s.closeFrame.Inv := by
  unfold State.closeFrame
  split
  · exact { h with
      lastFrameDurationWidth := tickDiff_lt ..
      sleepingQuiet := fun hs => ⟨rfl, (h.sleepingQuiet hs).2⟩ }
  · exact h

/-- The grant of a frame by a block that is awake (R123). -/
theorem State.Inv.grant (h : s.Inv) (hsleep : s.sleeping = false) : s.grant.Inv :=
  { h.setCursor (Nat.zero_mod 8) (Nat.zero_le _) with
    nextFrameStartWidth := Nat.mod_lt _ (Nat.two_pow_pos _)
    lastFrameStartWidth := Nat.mod_lt _ (Nat.two_pow_pos _)
    sleepingQuiet := fun hs => absurd hs (by simp [hsleep]) }

/-- A `POLL` suspends only between frames, on a block that is not locked (R38, R124). -/
theorem State.Inv.idleWait (h : s.Inv) (hlock : s.locked = false) (hpend : s.pendingFlush = false)
    (hheld : s.held = []) : s.idleWait.Inv :=
  { h with
    lockedQuiet := fun hl => absurd hl (by simp [hlock])
    sleepingQuiet := fun _ => ⟨hpend, hheld⟩ }

/-- A tick event (R240). -/
theorem State.Inv.tick (h : s.Inv) : s.tick.Inv := by
  have hcount : { s with tickCount := s.tickValue (s.tickCount + 1) }.Inv :=
    { h with tickCountWidth := Nat.mod_lt _ (Nat.two_pow_pos _) }
  simp only [State.tick]
  split
  · have hawake : { s with tickCount := s.tickValue (s.tickCount + 1), sleeping := false }.Inv :=
      { hcount with
        lockedQuiet := fun hl => ⟨rfl, (h.lockedQuiet hl).2⟩
        sleepingQuiet := nofun }
    exact hawake.respond 0
  · exact hcount

/-- The host reads no more responses than there are (R278). -/
theorem State.Inv.hostRead (h : s.Inv) : s.hostRead.Inv :=
  { h with readBound := Nat.min_le_right .. }

/-- Reset meets the invariant for any legal parameters; what was sent before it stands (R260, R262). -/
theorem State.Inv.doReset (h : s.Inv) : s.doReset.Inv where
  legal := h.legal
  bufWf := Memory.wf_nil _
  cursorAligned := rfl
  cursorRange := Nat.zero_le _
  nextFrameStartWidth := Nat.two_pow_pos _
  lastFrameStartWidth := Nat.two_pow_pos _
  lastFrameDurationWidth := Nat.two_pow_pos _
  tickCountWidth := Nat.two_pow_pos _
  period := rfl
  lockedIff := by simp
  lockedQuiet := nofun
  sleepingQuiet := nofun
  checkedNoOob := fun _ => by simp
  heldWords := .inl rfl
  responseWidth := h.responseWidth
  readBound := h.readBound
  paintForm := h.paintForm

/-- One pixel attempt: OOB only with the bounds check off, a column only below WIDTH (R143). -/
theorem State.Inv.drawPixel (h : s.Inv) (p : Point) (c : Bool) : (s.drawPixel p c).Inv := by
  rcases s.drawPixel_cases p c with
    ⟨_, e⟩ | ⟨_, _, _, e⟩ | ⟨_, _, hunchecked, e⟩ | ⟨_, hnonneg, hwidth, e⟩ <;> rw [e]
  · exact h
  · exact h
  · exact h.raise nofun fun _ => hunchecked
  · exact h.withBuf (Memory.wf_write (by omega) h.bufWf)

/-- Any list of pixel attempts (R160). -/
theorem State.Inv.drawAll (ps : List (Point × Bool)) (h : s.Inv) : (s.drawAll ps).Inv := by
  induction ps generalizing s with
  | nil => exact h
  | cons p ps ih => exact ih (h.drawPixel p.1 p.2)

/-! ### The commands -/

/-- What an outcome keeps of `s`: a next state is in the invariant and has the parameters of `s`. -/
def KeepsInv (s : State) (o : Host.Outcome State Fault Refusal) : Prop :=
  ∀ t, o = .next t → t.Inv ∧ t.build = s.build

theorem keepsInv_next {t : State} (ht : t.Inv) (hb : t.build = s.build) : KeepsInv s (.next t) := by
  rintro _ ⟨⟩
  exact ⟨ht, hb⟩

/-- A block that is free to execute and at a command boundary: the state in which the engine
executes a command (R91). -/
structure State.AtBoundary (s : State) : Prop where
  unlocked : s.locked = false
  awake : s.sleeping = false
  noneHeld : s.held = []

theorem keepsInv_respond (h : s.Inv) (v : Nat) : KeepsInv s (.next (s.respond v)) :=
  keepsInv_next (h.respond v) rfl

theorem keepsInv_drawAll (h : s.Inv) (ps : List (Point × Bool)) : KeepsInv s (.next (s.drawAll ps)) :=
  keepsInv_next (h.drawAll ps) (s.drawAll_build ps)

/-- Every command that draws in one colour. -/
theorem keepsInv_draw (h : s.Inv) (c : Bool) (ps : List Point) : KeepsInv s (.next (s.draw c ps)) :=
  keepsInv_drawAll h _

/-- An ill-formed term of `Instr` locks (R99; log 14). -/
theorem keepsInv_lock (h : s.Inv) (hb : s.AtBoundary) : KeepsInv s (.next s.lock) :=
  keepsInv_next (h.lock hb.awake hb.noneHeld) rfl

theorem execSetrate_keepsInv (h : s.Inv) (rate : Word) : KeepsInv s (execSetrate rate s) := by
  unfold execSetrate
  split
  next => exact keepsInv_next h.raiseDivzero rfl
  next hrate => exact keepsInv_next (h.setRate hrate) rfl

/-- What `POLL` can do, the bookkeeping first: it suspends, it answers 0, or it grants a frame (R123). -/
theorem execPoll_cases (s : State) :
    (early s.build.tickw s.slack = true ∧ 1 < s.slack ∧ execPoll s = .next s.closeFrame.idleWait) ∨
    (early s.build.tickw s.slack = true ∧ s.slack ≤ 1 ∧ execPoll s = .next (s.closeFrame.respond 0)) ∨
    (early s.build.tickw s.slack = false ∧ execPoll s = .next (s.closeFrame.grant.respond 1)) := by
  have hslack : s.closeFrame.slack = s.slack := by simp [State.slack]
  simp only [execPoll, hslack, State.closeFrame_build]
  cases early s.build.tickw s.slack with
  | false => simp
  | true => by_cases hone : 1 < s.slack <;> simp [hone]; omega

theorem execPoll_keepsInv (h : s.Inv) (hb : s.AtBoundary) : KeepsInv s (execPoll s) := by
  rcases execPoll_cases s with ⟨_, _, e⟩ | ⟨_, _, e⟩ | ⟨_, e⟩ <;> rw [e]
  · exact keepsInv_next (h.closeFrame.idleWait (by simp [hb.unlocked]) (by simp) (by simp [hb.noneHeld])) (by simp)
  · exact keepsInv_next (h.closeFrame.respond 0) (by simp)
  · exact keepsInv_next ((h.closeFrame.grant (by simp [hb.awake])).respond 1) (by simp)

theorem execLoad_keepsInv (h : s.Inv) : KeepsInv s (execLoad s) := by
  unfold execLoad
  split
  · exact keepsInv_next (h.raiseDivzero.respond 0) rfl
  · exact keepsInv_respond h _

theorem execEveryn_keepsInv (h : s.Inv) (n : Word) : KeepsInv s (execEveryn n s) := by
  unfold execEveryn
  split
  · exact keepsInv_next (h.raiseDivzero.respond 0) rfl
  · exact keepsInv_respond h _

/-- Below HEIGHT an aligned cursor has a whole band left (R24). -/
theorem State.Inv.band_left (h : s.Inv) (hlt : s.cursor < s.build.height) : s.cursor + 8 ≤ s.build.height := by
  obtain ⟨_, _, hheight, _⟩ := h.legal
  have halign := h.cursorAligned
  omega

theorem execFlush_keepsInv (h : s.Inv) : KeepsInv s (execFlush s) := by
  unfold execFlush
  split
  next hleft =>
    have hband := h.band_left (of_decide_eq_true hleft)
    have halign : (s.cursor + 8) % 8 = 0 := by rw [Nat.add_mod_right, h.cursorAligned]
    exact keepsInv_next ((h.paint hband).setCursor halign hband) rfl
  next => exact keepsInv_next (h.raise nofun nofun) rfl

theorem execFcircleq_keepsInv (h : s.Inv) (hb : s.AtBoundary) (x0 y0 r delta : Word) (sides col : Nibble) :
    KeepsInv s (execFcircleq x0 y0 r delta sides col s) := by
  unfold execFcircleq
  split
  · exact keepsInv_draw h _ _
  · exact keepsInv_lock h hb

theorem execChar1_keepsInv (h : s.Inv) (hb : s.AtBoundary) (x y w3 : Word) (bg fg : Nibble) :
    KeepsInv s (execChar1 x y w3 bg fg s) := by
  unfold execChar1
  split
  · exact keepsInv_drawAll h _
  · exact keepsInv_lock h hb

theorem execHitglyph_keepsInv (h : s.Inv) (hb : s.AtBoundary) (y w2 : Word) : KeepsInv s (execHitglyph y w2 s) := by
  unfold execHitglyph
  split
  · exact keepsInv_respond h _
  · exact keepsInv_lock h hb

/-- Every command, executed at a command boundary, keeps the invariant and the parameters. -/
theorem exec_keepsInv (h : s.Inv) (hb : s.AtBoundary) (i : Instr) : KeepsInv s (exec i s) := by
  cases i with
  | setrate rate => exact execSetrate_keepsInv h rate
  | poll => exact execPoll_keepsInv h hb
  | load => exact execLoad_keepsInv h
  | everyn n => exact execEveryn_keepsInv h n
  | clear col => exact keepsInv_next (h.withBuf (Memory.wf_filled _ _)) rfl
  | pixel x y col => exact keepsInv_next (h.drawPixel _ _) (s.drawPixel_build _ _)
  | flush => exact execFlush_keepsInv h
  | fcircleq x0 y0 r delta sides col => exact execFcircleq_keepsInv h hb x0 y0 r delta sides col
  | char1 x y w3 bg fg => exact execChar1_keepsInv h hb x y w3 bg fg
  | hitglyph y w2 => exact execHitglyph_keepsInv h hb y w2
  | char => exact keepsInv_drawAll h _
  | faults | needs | hitspan => exact keepsInv_respond h _
  | vline | hline | line | rect | frect | circle | circleq | fcircle | rrect | frrect | tri | ftri =>
    exact keepsInv_draw h _ _

/-! ### The turns -/

/-- A turn of the band engine, along what it can do (R91). -/
theorem engineTurn_keepsInv (h : s.Inv) : KeepsInv s (engineTurn s) := by
  rcases engineTurn_cases s with ⟨_, e⟩ | ⟨_, _, e⟩ | ⟨hlock, hsleep, i, rest, _, ⟨hwaits, e⟩ | ⟨_, e⟩⟩ |
    ⟨hlock, hsleep, _, rest, _, e⟩ | ⟨hlock, hsleep, hdecode, e⟩ <;> rw [e]
  · exact keepsInv_next (h.otherAgents _ _ _) rfl
  · exact keepsInv_next h rfl
  · obtain ⟨rfl, _⟩ := (s.waits_iff i).1 hwaits
    exact keepsInv_next (h.withHeld hlock hsleep (.inr rfl) rest) rfl
  · exact exec_keepsInv (h.accepted hlock hsleep rest) ⟨hlock, hsleep, rfl⟩ i
  · exact keepsInv_lock (h.accepted hlock hsleep rest) ⟨hlock, hsleep, rfl⟩
  · exact keepsInv_next (h.withHeld hlock hsleep (.inl hdecode) []) rfl

/-- A turn of any agent, or of the reset input (R18, R260). -/
theorem takeTurn_keepsInv (h : s.Inv) (t : Turn) : KeepsInv s (takeTurn t s) := by
  cases t with
  | hostSend w => exact keepsInv_next (h.otherAgents _ _ _) rfl
  | hostRead => exact keepsInv_next h.hostRead rfl
  | engine => exact engineTurn_keepsInv h
  | tick => exact keepsInv_next h.tick s.tick_build
  | transport ready => exact keepsInv_next (h.otherAgents _ _ _) rfl
  | reset => exact keepsInv_next h.doReset rfl

/-- A step is a turn of a state that differs in the schedule only. -/
theorem step_keepsInv (h : s.Inv) : KeepsInv s (step s) :=
  takeTurn_keepsInv (h.otherAgents s.channel s.transportReady s.schedule.tail) s.nextTurn

end Sys2Proof.Machine

namespace Sys2Proof

open Machine

/-- Settles O10: every operation of the state keeps the invariant, so every command does at a command boundary, and so
does every turn. -/
theorem stepKeepsInvariant : Obligations.StepKeepsInvariant := by
  intro s t h hstep
  exact step_keepsInv h t hstep

end Sys2Proof
end

section
/-! PROOFS. The decoder on the words of a command: whole, they decode to it; cut short, to no command yet. -/

namespace Sys2Proof.Laws

/-- `COL` of a header word reads back what it was made of (R92). -/
@[simp] theorem colOf_header (o : Opcode) (aux col : Nibble) : colOf (header o aux col) = col :=
  BitVec.extractLsb'_append_eq_right

/-- `AUX` likewise (R92). -/
@[simp] theorem auxOf_header (o : Opcode) (aux col : Nibble) : auxOf (header o aux col) = aux := by
  ext k hk
  have hcol : ¬ 4 + k < 4 := by omega
  simp only [auxOf, header, BitVec.getElem_extractLsb', BitVec.getLsbD_append, if_neg hcol]
  rw [Nat.add_sub_cancel_left, if_pos hk, BitVec.getLsbD_eq_getElem hk]

/-- The operand word of `CHAR` holds the size above the character (R93). -/
@[simp] theorem highByte_append (size ch : Byte) : highByte (size ++ ch) = size :=
  BitVec.extractLsb'_append_eq_left

@[simp] theorem lowByte_append (size ch : Byte) : lowByte (size ++ ch) = ch :=
  BitVec.extractLsb'_append_eq_right

/-- The decoder on a header word and as many operand words as its row asks for, when they stand for a command: that
command, and the words after it (R91, R98). -/
theorem decode_of_shape {i : Instr} {o : Opcode} {h : Word} {ops : List Word} (rest : List Word)
    (henc : encode i = h :: ops) (hrow : Opcode.ofHeader h = some o) (hlen : ops.length = o.operands)
    (hinstr : o.instr h (fun k => (ops ++ rest).getD (k - 1) 0) = i) (hwf : i.WellFormed) :
    decode (encode i ++ rest) = .command i rest := by
  have hall : ¬ (ops ++ rest).length < ops.length := by simp
  rw [henc, List.cons_append]
  simp only [decode, hrow, hinstr, ← hlen, if_neg hall, if_pos hwf, List.drop_left]

/-- The words of a well-formed command, whatever follows them, decode to that command (R91 to R98). -/
theorem decode_encode_append (i : Instr) (rest : List Word) (hwf : i.WellFormed) :
    decode (encode i ++ rest) = .command i rest := by
  cases i with
  | setrate | poll | load | everyn | faults | needs | flush | hitspan | hitglyph =>
    exact decode_of_shape rest rfl (ofHeader_header_fixed _ rfl) rfl rfl hwf
  | clear | pixel | vline | hline | line | rect | frect | circle | fcircle | rrect | frrect | tri | ftri =>
    exact decode_of_shape rest rfl (ofHeader_header_col _ _ rfl) rfl (by simp [Opcode.instr]) hwf
  | circleq | char | char1 =>
    exact decode_of_shape rest rfl (ofHeader_header_aux _ _ _ rfl) rfl (by simp [Opcode.instr]) hwf
  | fcircleq x0 y0 r delta sides col =>
    have hsides : sides.extractLsb' 2 2 = 0 := beq_iff_eq.1 hwf
    exact decode_of_shape rest rfl (ofHeader_header_fcircleq _ _ hsides) rfl (by simp [Opcode.instr]) hwf

/-- Every command's words have the shape that its constructor's lemma says. -/
theorem encodeShape (i : Instr) : EncodeShape.Statement i :=
  match i with
  | .setrate rate => EncodeShape.setrate rate
  | .poll => EncodeShape.poll
  | .load => EncodeShape.load
  | .everyn n => EncodeShape.everyn n
  | .faults => EncodeShape.faults
  | .needs => EncodeShape.needs
  | .clear col => EncodeShape.clear col
  | .pixel x y col => EncodeShape.pixel x y col
  | .flush => EncodeShape.flush
  | .vline x y h col => EncodeShape.vline x y h col
  | .hline x y w col => EncodeShape.hline x y w col
  | .line x0 y0 x1 y1 col => EncodeShape.line x0 y0 x1 y1 col
  | .rect x y w h col => EncodeShape.rect x y w h col
  | .frect x y w h col => EncodeShape.frect x y w h col
  | .circle x0 y0 r col => EncodeShape.circle x0 y0 r col
  | .circleq x0 y0 r corners col => EncodeShape.circleq x0 y0 r corners col
  | .fcircle x0 y0 r col => EncodeShape.fcircle x0 y0 r col
  | .fcircleq x0 y0 r delta sides col => EncodeShape.fcircleq x0 y0 r delta sides col
  | .rrect x y w h r col => EncodeShape.rrect x y w h r col
  | .frrect x y w h r col => EncodeShape.frrect x y w h r col
  | .tri x0 y0 x1 y1 x2 y2 col => EncodeShape.tri x0 y0 x1 y1 x2 y2 col
  | .ftri x0 y0 x1 y1 x2 y2 col => EncodeShape.ftri x0 y0 x1 y1 x2 y2 col
  | .char x y ch size bg fg => EncodeShape.char x y ch size bg fg
  | .char1 x y w3 bg fg => EncodeShape.char1 x y w3 bg fg
  | .hitspan y h => EncodeShape.hitspan y h
  | .hitglyph y w2 => EncodeShape.hitglyph y w2

/-- The words of a command cut short are not yet a command (R44, R98). -/
theorem decode_of_encode_eq_append {i : Instr} {pre ws : List Word} (hwf : i.WellFormed) (henc : encode i = pre ++ ws)
    (hws : ws ≠ []) : decode pre = .incomplete := by
  obtain ⟨o, aux, col, ops, hshape, hlen, hrow⟩ := encodeShape i hwf
  cases pre with
  | nil => rfl
  | cons h ops' =>
    obtain ⟨rfl, hops⟩ := List.cons.inj (hshape.symm.trans henc)
    have hshort : ops'.length < o.operands := by
      have hpos := List.length_pos_iff.2 hws
      rw [← hlen, hops, List.append_eq, List.length_append]
      omega
    simp only [decode, hrow, if_pos hshort]

end Sys2Proof.Laws
end

section
/-! PROOFS. The turns of the band engine one by one, a step by its schedule, and a run step by step. -/

namespace Sys2Proof.Machine

open Claims

variable {s : State}

/-! ### A turn of the engine -/

/-- Locked: one word is discarded (R37; log 15). -/
theorem engineTurn_of_locked (hlock : s.locked = true) : engineTurn s = .next s.discardWord := by
  simp [engineTurn, hlock]

/-- Asleep: nothing is accepted (R38). -/
theorem engineTurn_of_sleeping (hlock : s.locked = false) (hsleep : s.sleeping = true) : engineTurn s = .next s := by
  simp [engineTurn, hlock, hsleep]

/-- The words are not yet a command: they are kept (R44). -/
theorem engineTurn_of_incomplete (hlock : s.locked = false) (hsleep : s.sleeping = false)
    (hdecode : decode s.words = .incomplete) : engineTurn s = .next { s with held := s.words, channel := [] } := by
  simp [engineTurn, hlock, hsleep, hdecode]

/-- A command that the transport does not let go on: it waits in the held words (R246; log 8). -/
theorem engineTurn_of_waits (hlock : s.locked = false) (hsleep : s.sleeping = false) {i : Instr} {rest : List Word}
    (hdecode : decode s.words = .command i rest) (hwaits : s.waits i = true) :
    engineTurn s = .next { s with held := encode i, channel := rest } := by
  simp [engineTurn, hlock, hsleep, hdecode, hwaits]

/-- Any other command is executed (R91). -/
theorem engineTurn_of_command (hlock : s.locked = false) (hsleep : s.sleeping = false) {i : Instr} {rest : List Word}
    (hdecode : decode s.words = .command i rest) (hgoes : s.waits i = false) :
    engineTurn s = exec i (s.accepted rest) := by
  simp [engineTurn, hlock, hsleep, hdecode, hgoes]

/-- An illegal command locks the block (R99). -/
theorem engineTurn_of_illegal (hlock : s.locked = false) (hsleep : s.sleeping = false) {why : Illegal}
    {rest : List Word} (hdecode : decode s.words = .illegal why rest) :
    engineTurn s = .next (s.accepted rest).lock := by
  simp [engineTurn, hlock, hsleep, hdecode]

/-! ### A step -/

/-- With an empty schedule the band engine moves (log 4). -/
theorem step_of_schedule_nil (hsch : s.schedule = []) : step s = engineTurn s := by
  rcases step_cases s with ⟨_, e⟩ | ⟨t, rest, hcons, _⟩
  · exact e
  · simp [hsch] at hcons

/-- The turn that the schedule names first is taken (R18, log 4). -/
theorem step_of_schedule_cons {t : Turn} {sch : List Turn} (hsch : s.schedule = t :: sch) :
    step s = takeTurn t { s with schedule := sch } := by
  simp only [step, State.nextTurn, hsch, List.headD_cons, List.tail_cons]

/-! ### A run -/

/-- A run is its first step and a run from there. -/
theorem run_succ_of_step {s' : State} (k : Nat) (hstep : step s = .next s') :
    Sys2Proof.core.run (k + 1) s = Sys2Proof.core.run k s' := by
  have hcore : Sys2Proof.core.step s = .next s' := hstep
  simp only [Host.Core.run, hcore]

/-- A run that ends in a next state has made each of its steps. -/
theorem run_succ_eq_next {k : Nat} {t : State} :
    Sys2Proof.core.run (k + 1) s = .next t ↔ ∃ u, step s = .next u ∧ Sys2Proof.core.run k u = .next t := by
  cases hstep : step s with
  | next u => rw [run_succ_of_step k hstep]; simp
  | fault r => cases r
  | refused r =>
    have hcore : Sys2Proof.core.step s = .refused r := hstep
    simp [Host.Core.run, hcore]

/-- A run of one step is the step. -/
theorem run_one (s : State) : Sys2Proof.core.run 1 s = step s := by
  simp only [Host.Core.run]
  split
  next h => exact h.symm
  next h => exact h.symm
  next h => exact h.symm

/-! ### A command sent word by word -/

/-- The schedule of a word: the host sends it, then the engine moves. -/
theorem wordByWord_cons (w : Word) (ws : List Word) :
    wordByWord (w :: ws) = .hostSend w :: .engine :: wordByWord ws := rfl

/-- The host sends the words of a command that are not sent yet, one at a time, the engine moving after each: every word
but the last is held, and on the last the command executes (R44, R91). -/
theorem run_wordByWord {i : Instr} {sch : List Turn} (hwf : i.WellFormed) (ws : List Word) (hne : ws ≠ [])
    (hlock : s.locked = false) (hsleep : s.sleeping = false) (hchannel : s.channel = [])
    (hready : i = .flush → s.transportReady = true) (henc : encode i = s.held ++ ws)
    (hsch : s.schedule = wordByWord ws ++ sch) :
    Sys2Proof.core.run (2 * ws.length) s = exec i { s with held := [], channel := [], schedule := sch } := by
  induction ws generalizing s with
  | nil => exact absurd rfl hne
  | cons w ws ih =>
    have hsend : step s = .next { s with channel := [w], schedule := .engine :: (wordByWord ws ++ sch) } := by
      have hcons : s.schedule = .hostSend w :: .engine :: (wordByWord ws ++ sch) := hsch
      rw [step_of_schedule_cons hcons]
      simp only [takeTurn, State.hostSend, hchannel, List.nil_append]
    have hengine : step { s with channel := [w], schedule := .engine :: (wordByWord ws ++ sch) } =
        engineTurn { s with channel := [w], schedule := wordByWord ws ++ sch } :=
      step_of_schedule_cons (t := .engine) rfl
    rw [List.length_cons, Nat.mul_succ, run_succ_of_step _ hsend]
    cases ws with
    | nil =>
      have hdecode : decode (s.held ++ [w]) = .command i [] := by
        simpa only [henc, List.append_nil] using Laws.decode_encode_append i [] hwf
      have hgoes : { s with channel := [w], schedule := sch }.waits i = false := by
        rw [Bool.eq_false_iff, ne_eq, State.waits_iff]
        rintro ⟨hflush, _, hunready⟩
        exact absurd (hready hflush) (by simpa using hunready)
      exact (run_one _).trans (hengine.trans (engineTurn_of_command (s := { s with channel := [w], schedule := sch })
        hlock hsleep hdecode hgoes))
    | cons w' ws =>
      have hrest : encode i = (s.held ++ [w]) ++ (w' :: ws) := by simpa using henc
      have hdecode : decode (s.held ++ [w]) = .incomplete :=
        Laws.decode_of_encode_eq_append hwf hrest (List.cons_ne_nil _ _)
      rw [run_succ_of_step _ (hengine.trans (engineTurn_of_incomplete hlock hsleep hdecode))]
      exact ih (List.cons_ne_nil _ _) hlock hsleep rfl hready hrest rfl

/-! ### A locked block -/

/-- A turn of a locked block that is not reset: only the other agents' fields and `tickCount` may change (R37). -/
theorem takeTurn_of_locked {t : State} {turn : Turn} (hlock : s.locked = true) (hsleep : s.sleeping = false)
    (hturn : turn ≠ .reset) (h : takeTurn turn s = .next t) :
    t = { s with channel := t.channel, tickCount := t.tickCount, responsesRead := t.responsesRead,
                 transportReady := t.transportReady } ∧
    (turn ≠ .tick → t.tickCount = s.tickCount) := by
  cases turn with
  | hostSend w => cases h; exact ⟨rfl, fun _ => rfl⟩
  | hostRead => cases h; exact ⟨rfl, fun _ => rfl⟩
  | engine =>
    cases (engineTurn_of_locked hlock).symm.trans h
    exact ⟨rfl, fun _ => rfl⟩
  | tick =>
    have htick : s.tick = { s with tickCount := s.tickValue (s.tickCount + 1) } := by simp [State.tick, hsleep]
    cases h
    exact ⟨by rw [htick], fun hne => absurd rfl hne⟩
  | transport ready => cases h; exact ⟨rfl, fun _ => rfl⟩
  | reset => exact absurd rfl hturn

end Sys2Proof.Machine

namespace Sys2Proof

open Machine Claims

/-- Settles O6: a step of a locked block is one turn of a state that differs in the schedule only. -/
theorem lockedBlockDiscards : Obligations.LockedBlockDiscards := by
  intro s t hinv hlock hstep
  obtain ⟨hsleep, _⟩ := hinv.lockedQuiet hlock
  refine ⟨fun hturn => ?_, fun hturn => ?_, fun hturn => ?_⟩
  · obtain ⟨hframe, htick⟩ :=
      takeTurn_of_locked (s := { s with schedule := s.schedule.tail }) hlock hsleep hturn hstep
    refine ⟨?_, htick⟩
    rw [hframe]
  · have hengine : step s = .next { s with schedule := s.schedule.tail }.discardWord := by
      rw [step, hturn]
      exact engineTurn_of_locked hlock
    cases hengine.symm.trans hstep
    rfl
  · rw [step, hturn] at hstep
    cases hstep
    rfl

/-- Settles O9: every word but the last is held, and on the last the command executes. -/
theorem wordsOneAtATime : Obligations.WordsOneAtATime := by
  intro i s sch hwf hlock hsleep hheld hchannel hready
  have hne : encode i ≠ [] := by
    obtain ⟨o, aux, col, ops, hshape, _⟩ := Laws.encodeShape i hwf
    rw [hshape]
    exact List.cons_ne_nil _ _
  have hstart : { s with held := [], channel := [], schedule := sch } = { s with schedule := sch } := by
    simp only [hheld, hchannel]
  rw [← hstart]
  exact run_wordByWord hwf (encode i) hne hlock hsleep hchannel hready (by simp [hheld]) rfl

/-- Settles O8: each of these turns is one case of the engine's turn, or a turn of the host or the transport. -/
theorem idleTurns : Obligations.IdleTurns := by
  refine ⟨fun s hsch hlock hsleep => ?_, fun s hsch hlock hsleep hdecode => ?_,
    fun s rest hsch hlock hsleep hwords hleft hready => ?_, fun s w sch hsch => step_of_schedule_cons hsch,
    fun s sch hsch => step_of_schedule_cons hsch, fun s r sch hsch => step_of_schedule_cons hsch⟩
  · exact (step_of_schedule_nil hsch).trans (engineTurn_of_sleeping hlock hsleep)
  · exact (step_of_schedule_nil hsch).trans (engineTurn_of_incomplete hlock hsleep hdecode)
  · have hdecode : decode s.words = .command .flush rest :=
      (congrArg decode hwords).trans (Laws.decode_encode_append .flush rest rfl)
    have hwaits : s.waits .flush = true := (s.waits_iff .flush).2 ⟨rfl, hleft, hready⟩
    exact (step_of_schedule_nil hsch).trans (engineTurn_of_waits hlock hsleep hdecode hwaits)

end Sys2Proof
end

section
/-! PROOFS. What a command can do, said once, and which state each command writes (`10_state.md` R39, R40). -/

namespace Sys2Proof.Machine

open Claims

variable {s t : State}

/-- Everything that a command can do: the next states of `i` from `s`, in the operations of the state. -/
inductive Effect (s : State) : Instr → State → Prop
  /-- A drawing command attempts its pixels (R143, R160). -/
  | draws (i : Instr) (ps : List (Point × Bool)) (hdraw : isDrawing i = true) (hresp : responds i = false)
      (hwf : i.WellFormed) : Effect s i (s.drawAll ps)
  /-- A command other than `POLL` answers and does nothing else (R101). -/
  | answers (i : Instr) (v : Nat) (hresp : responds i = true) (hpoll : i ≠ .poll) (hwf : i.WellFormed) :
      Effect s i (s.respond v)
  /-- `LOAD` or `EVERYN` with a zero divisor (R126, R127). -/
  | answersDivzero (i : Instr) (hi : (i = .load ∧ s.framePeriod = 0) ∨ ∃ n, i = .everyn n ∧ unsigned n = 0) :
      Effect s i ((s.raise .divzero).respond 0)
  /-- `SETRATE` with a zero rate (R121). -/
  | refusesRate (rate : Word) (hrate : unsigned rate = 0) : Effect s (.setrate rate) (s.raise .divzero)
  /-- `SETRATE` (R121). -/
  | setsRate (rate : Word) (hrate : unsigned rate ≠ 0) :
      Effect s (.setrate rate)
        { s with frameRate := rate, framePeriod := BitVec.ofNat 16 (max 1 (1000 / unsigned rate)) }
  /-- `POLL` suspends (R124). -/
  | suspends : Effect s .poll s.closeFrame.idleWait
  /-- `POLL` answers that it is early (R123). -/
  | early : Effect s .poll (s.closeFrame.respond 0)
  /-- `POLL` grants a frame (R123). -/
  | grants : Effect s .poll (s.closeFrame.grant.respond 1)
  /-- `CLEAR` (R142). -/
  | clears (col : Nibble) :
      Effect s (.clear col) { s with buf := Memory.filled s.build.width (if norm col then 0xFF#8 else 0x00#8) }
  /-- `FLUSH` hands over a band (R146). -/
  | paints (hleft : s.cursor < s.build.height) : Effect s .flush (s.paint.setCursor (s.cursor + 8))
  /-- `FLUSH` with no band left (R147). -/
  | refusesFlush (hdone : s.build.height ≤ s.cursor) : Effect s .flush (s.raise .flushx)
  /-- An ill-formed term (R99; log 14). -/
  | locks (i : Instr) (hill : ¬ i.WellFormed) (hi : i ≠ .poll ∧ i ≠ .flush) : Effect s i s.lock

/-- The effect of an outcome: its next state, when it has one. -/
def HasEffect (i : Instr) (s : State) (o : Host.Outcome State Fault Refusal) : Prop :=
  ∀ t, o = .next t → Effect s i t

theorem hasEffect_next {i : Instr} (h : Effect s i t) : HasEffect i s (.next t) := by
  rintro _ ⟨⟩
  exact h

theorem execSetrate_hasEffect (rate : Word) : HasEffect (.setrate rate) s (execSetrate rate s) := by
  unfold execSetrate
  split
  next hrate => exact hasEffect_next (.refusesRate rate hrate)
  next hrate => exact hasEffect_next (.setsRate rate hrate)

theorem execPoll_hasEffect : HasEffect .poll s (execPoll s) := by
  rcases execPoll_cases s with ⟨_, _, e⟩ | ⟨_, _, e⟩ | ⟨_, e⟩ <;> rw [e]
  · exact hasEffect_next .suspends
  · exact hasEffect_next .early
  · exact hasEffect_next .grants

theorem execLoad_hasEffect : HasEffect .load s (execLoad s) := by
  unfold execLoad
  split
  next hzero => exact hasEffect_next (.answersDivzero _ (.inl ⟨rfl, hzero⟩))
  next => exact hasEffect_next (.answers _ _ rfl nofun rfl)

theorem execEveryn_hasEffect (n : Word) : HasEffect (.everyn n) s (execEveryn n s) := by
  unfold execEveryn
  split
  next hzero => exact hasEffect_next (.answersDivzero _ (.inr ⟨n, rfl, hzero⟩))
  next => exact hasEffect_next (.answers _ _ rfl nofun rfl)

theorem execFlush_hasEffect : HasEffect .flush s (execFlush s) := by
  unfold execFlush
  split
  next hleft => exact hasEffect_next (.paints (of_decide_eq_true hleft))
  next hdone => exact hasEffect_next (.refusesFlush (by simpa [State.bandLeft] using hdone))

theorem execFcircleq_hasEffect (x0 y0 r delta : Word) (sides col : Nibble) :
    HasEffect (.fcircleq x0 y0 r delta sides col) s (execFcircleq x0 y0 r delta sides col s) := by
  unfold execFcircleq
  split
  next hwf => exact hasEffect_next (.draws _ _ rfl rfl hwf)
  next hill => exact hasEffect_next (.locks _ hill ⟨nofun, nofun⟩)

theorem execChar1_hasEffect (x y w3 : Word) (bg fg : Nibble) :
    HasEffect (.char1 x y w3 bg fg) s (execChar1 x y w3 bg fg s) := by
  unfold execChar1
  split
  next hwf => exact hasEffect_next (.draws _ _ rfl rfl hwf)
  next hill => exact hasEffect_next (.locks _ hill ⟨nofun, nofun⟩)

theorem execHitglyph_hasEffect (y w2 : Word) : HasEffect (.hitglyph y w2) s (execHitglyph y w2 s) := by
  unfold execHitglyph
  split
  next hwf => exact hasEffect_next (.answers _ _ rfl nofun hwf)
  next hill => exact hasEffect_next (.locks _ hill ⟨nofun, nofun⟩)

/-- Every command does one of the things that `Effect` lists for it. -/
theorem exec_hasEffect (i : Instr) (s : State) : HasEffect i s (exec i s) := by
  cases i with
  | setrate rate => exact execSetrate_hasEffect rate
  | poll => exact execPoll_hasEffect
  | load => exact execLoad_hasEffect
  | everyn n => exact execEveryn_hasEffect n
  | clear col => exact hasEffect_next (.clears col)
  | pixel x y col => exact hasEffect_next (.draws _ [((signed x, signed y), norm col)] rfl rfl rfl)
  | flush => exact execFlush_hasEffect
  | fcircleq x0 y0 r delta sides col => exact execFcircleq_hasEffect x0 y0 r delta sides col
  | char1 x y w3 bg fg => exact execChar1_hasEffect x y w3 bg fg
  | hitglyph y w2 => exact execHitglyph_hasEffect y w2
  | faults | needs | hitspan => exact hasEffect_next (.answers _ _ rfl nofun rfl)
  | vline | hline | line | rect | frect | circle | circleq | fcircle | rrect | frrect | tri | ftri | char =>
    exact hasEffect_next (.draws _ _ rfl rfl rfl)

/-- With the bounds check on, no pixel attempt raises a fault (R143). -/
theorem State.drawAll_fault_of_checked (ps : List (Point × Bool)) (hcheck : s.build.boundsCheck = true) :
    (s.drawAll ps).fault = s.fault :=
  (drawAll_fault ps s).2 fun hoff => by simp [hoff.1] at hcheck

/-! ### The band-cursor state machine -/

/-- The states of the machine of R40 in `cursor` and `pendingFlush`. -/
theorem State.bandState_eq_exhausted_iff : s.bandState = .exhausted ↔ s.cursor = s.build.height := by
  unfold State.bandState
  split_ifs <;> simp_all

theorem State.bandState_eq_rendering_iff :
    s.bandState = .rendering ↔ s.cursor ≠ s.build.height ∧ (s.cursor = 0 → s.pendingFlush = true) := by
  unfold State.bandState
  split_ifs <;> simp_all

theorem State.bandState_eq_idle_iff :
    s.bandState = .idle ↔ s.cursor ≠ s.build.height ∧ s.cursor = 0 ∧ s.pendingFlush = false := by
  unfold State.bandState
  split_ifs <;> simp_all

/-- The state machine sees nothing but `cursor`, `pendingFlush` and HEIGHT (R40). -/
theorem State.bandState_congr (hcursor : t.cursor = s.cursor) (hpend : t.pendingFlush = s.pendingFlush)
    (hbuild : t.build = s.build) : t.bandState = s.bandState := by
  simp only [State.bandState, hcursor, hpend, hbuild]

/-- A granting `POLL` puts the cursor on the first band (R123). -/
theorem execPoll_granted (h : execPoll s = .next t) (hpend : t.pendingFlush = true) :
    t.cursor = 0 ∧ t.build = s.build := by
  rcases execPoll_cases s with ⟨_, _, e⟩ | ⟨_, _, e⟩ | ⟨_, e⟩ <;> cases e.symm.trans h
  · simp at hpend
  · simp at hpend
  · simp

/-- A `POLL` that does not grant leaves the cursor (R123, R124). -/
theorem execPoll_notGranted (h : execPoll s = .next t) (hpend : t.pendingFlush = false) :
    t.cursor = s.cursor ∧ t.build = s.build := by
  rcases execPoll_cases s with ⟨_, _, e⟩ | ⟨_, _, e⟩ | ⟨_, e⟩ <;> cases e.symm.trans h
  · simp
  · simp
  · simp at hpend

/-- `FLUSH` below HEIGHT paints and moves the cursor by one band (R146). -/
theorem execFlush_of_lt (hleft : s.cursor < s.build.height) :
    execFlush s = .next (s.paint.setCursor (s.cursor + 8)) := by
  simp [execFlush, State.bandLeft, hleft]

/-- `FLUSH` with no band left is refused (R147). -/
theorem execFlush_of_le (hdone : s.build.height ≤ s.cursor) : execFlush s = .next (s.raise .flushx) := by
  simp [execFlush, State.bandLeft, Nat.not_lt.2 hdone]

/-- In the invariant, `FLUSH` before the last row moves the cursor by exactly 8 (R24, R146). -/
theorem State.Inv.flush_cursor (hinv : s.Inv) (h : execFlush s = .next t) (hleft : s.bandState ≠ .exhausted) :
    t.cursor = s.cursor + 8 ∧ t.build = s.build := by
  have hlt : s.cursor < s.build.height :=
    lt_of_le_of_ne hinv.cursorRange fun heq => hleft (State.bandState_eq_exhausted_iff.2 heq)
  cases (execFlush_of_lt hlt).symm.trans h
  exact ⟨State.setCursor_cursor_of_le (s := s.paint) (hinv.band_left hlt), rfl⟩

/-- A legal canvas has at least one band (R8, R9). -/
theorem height_pos_of_legal {p : Params} (h : p.Legal) : 0 < p.height := by
  obtain ⟨_, _, _, hheight, _⟩ := h
  omega

end Sys2Proof.Machine

namespace Sys2Proof

open Machine Claims

/-- Settles O58: the writers of each state, along what the command can do. -/
theorem onlyListedCommandsWrite : Obligations.OnlyListedCommandsWrite := by
  intro s t i hexec
  cases exec_hasEffect i s t hexec with
  | draws _ ps hdraw => simp +contextual [hdraw, State.drawAll_fault_of_checked]
  | answers _ v hresp => simp [hresp]
  | answersDivzero _ hi => rcases hi with ⟨rfl, _⟩ | ⟨n, rfl, _⟩ <;> simp [responds]
  | refusesRate rate => simp
  | setsRate rate => simp
  | suspends => simp
  | early => simp [responds]
  | grants => simp [responds]
  | clears col => simp
  | paints => simp
  | refusesFlush => simp
  | locks _ hill => simp [hill]

/-- Settles O30: `POLL` and `FLUSH` move the cursor as R123 and R146 say, every other command leaves the three fields
that the state machine sees, and reset puts the cursor on the first band. -/
theorem bandStateMachine : Obligations.BandStateMachine := by
  refine ⟨fun s t i hinv hexec => ⟨?_, ?_, ?_, ?_, ?_, ?_⟩, fun s hlegal => ?_⟩
  · rintro rfl hpend
    obtain ⟨hcursor, hbuild⟩ := execPoll_granted hexec hpend
    have hheight := height_pos_of_legal hinv.legal
    exact State.bandState_eq_rendering_iff.2 ⟨by rw [hcursor, hbuild]; omega, fun _ => hpend⟩
  · rintro rfl hpend
    obtain ⟨hcursor, hbuild⟩ := execPoll_notGranted hexec hpend
    split
    next hfirst =>
      obtain ⟨hrendering, hzero⟩ := hfirst
      obtain ⟨hheight, _⟩ := State.bandState_eq_rendering_iff.1 hrendering
      exact State.bandState_eq_idle_iff.2 ⟨by rwa [hcursor, hbuild], hcursor.trans hzero, hpend⟩
    next hother =>
      cases hstate : s.bandState with
      | idle =>
        obtain ⟨hheight, hzero, _⟩ := State.bandState_eq_idle_iff.1 hstate
        exact State.bandState_eq_idle_iff.2 ⟨by rwa [hcursor, hbuild], hcursor.trans hzero, hpend⟩
      | rendering =>
        obtain ⟨hheight, _⟩ := State.bandState_eq_rendering_iff.1 hstate
        exact State.bandState_eq_rendering_iff.2
          ⟨by rwa [hcursor, hbuild], fun hzero => absurd ⟨hstate, hcursor.symm.trans hzero⟩ hother⟩
      | exhausted =>
        have hend := State.bandState_eq_exhausted_iff.1 hstate
        exact State.bandState_eq_exhausted_iff.2 (by rwa [hcursor, hbuild])
  · rintro rfl hleft hlt
    obtain ⟨hcursor, hbuild⟩ := hinv.flush_cursor hexec hleft
    exact State.bandState_eq_rendering_iff.2 ⟨by rw [hcursor, hbuild]; omega, by omega⟩
  · rintro rfl hleft hlast
    obtain ⟨hcursor, hbuild⟩ := hinv.flush_cursor hexec hleft
    exact State.bandState_eq_exhausted_iff.2 (by rw [hcursor, hbuild, hlast])
  · rintro rfl hdone
    have hend := State.bandState_eq_exhausted_iff.1 hdone
    cases (execFlush_of_le hend.ge).symm.trans hexec
    refine ⟨hdone, ?_⟩
    rw [State.raise_getLsbD, Bool.or_eq_true]
    exact .inr rfl
  · intro hpoll hflush
    obtain ⟨-, hpacer, hcursor, -, -, -, -, -, -, hbuild, -⟩ := onlyListedCommandsWrite s t i hexec
    obtain ⟨-, -, -, -, hpend, -⟩ := hpacer hpoll
    exact State.bandState_congr (hcursor hpoll hflush) hpend hbuild
  · have hheight := height_pos_of_legal hlegal
    exact State.bandState_eq_idle_iff.2 ⟨hheight.ne, rfl, rfl⟩

end Sys2Proof
end

section
/-! PROOFS. Noninterference: what the content of `BUF` can reach (`10_state.md` R42). Each operation is shown
blind to it: hiding `BUF` before the operation changes nothing that is seen after it. -/

namespace Sys2Proof.Machine

open Claims

/-! ### What it is to be blind, and the rules of composition -/

/-- What is hidden stays hidden. -/
theorem hideBuf_hideBuf (s : State) : hideBuf (hideBuf s) = hideBuf s := by
  simp [hideBuf]

/-- An operation of the state is blind to `BUF`: hiding `BUF` before it changes nothing that is seen after it. -/
def Blind (f : State → State) : Prop := ∀ s, hideBuf (f s) = hideBuf (f (hideBuf s))

/-- The next state of an outcome with `BUF` hidden. -/
def hideOutcome : Host.Outcome State Fault Refusal → Host.Outcome State Fault Refusal
  | .next s => .next (hideBuf s)
  | .fault r => .fault r
  | .refused r => .refused r

/-- A command or a turn is blind to `BUF`: hiding `BUF` before it changes nothing that is seen of its outcome. -/
def BlindOutcome (f : State → Host.Outcome State Fault Refusal) : Prop :=
  ∀ s, hideOutcome (f s) = hideOutcome (f (hideBuf s))

/-- What neither reads nor writes the hidden part is blind to it. -/
theorem Blind.of_comm {f : State → State} (hf : ∀ s, hideBuf (f s) = f (hideBuf s)) : Blind f := fun s => by
  rw [hf, hf, hideBuf_hideBuf]

theorem BlindOutcome.of_comm {f : State → Host.Outcome State Fault Refusal}
    (hf : ∀ s, hideOutcome (f s) = f (hideBuf s)) : BlindOutcome f := fun s => by
  rw [hf, hf, hideBuf_hideBuf]

/-- Blind operations one after the other. -/
theorem Blind.comp {f g : State → State} (hg : Blind g) (hf : Blind f) : Blind fun s => g (f s) := fun s =>
  calc hideBuf (g (f s)) = hideBuf (g (hideBuf (f s))) := hg (f s)
    _ = hideBuf (g (hideBuf (f (hideBuf s)))) := by rw [hf s]
    _ = hideBuf (g (f (hideBuf s))) := (hg _).symm

/-- A choice between blind operations, made on what is not hidden. -/
theorem Blind.ite {p : State → Prop} [DecidablePred p] {f g : State → State} (hp : ∀ s, p s ↔ p (hideBuf s))
    (hf : Blind f) (hg : Blind g) : Blind fun s => if p s then f s else g s := fun s => by
  by_cases h : p s
  · simp only [if_pos h, if_pos ((hp s).1 h), hf s]
  · simp only [if_neg h, if_neg (mt (hp s).2 h), hg s]

theorem BlindOutcome.ite {p : State → Prop} [DecidablePred p] {f g : State → Host.Outcome State Fault Refusal}
    (hp : ∀ s, p s ↔ p (hideBuf s)) (hf : BlindOutcome f) (hg : BlindOutcome g) :
    BlindOutcome fun s => if p s then f s else g s := fun s => by
  by_cases h : p s
  · simp only [if_pos h, if_pos ((hp s).1 h), hf s]
  · simp only [if_neg h, if_neg (mt (hp s).2 h), hg s]

theorem Blind.next {f : State → State} (hf : Blind f) : BlindOutcome fun s => .next (f s) :=
  fun s => congrArg Host.Outcome.next (hf s)

/-- Of two states alike but for `BUF` the same is seen. -/
theorem BlindOutcome.congr {f : State → Host.Outcome State Fault Refusal} (hf : BlindOutcome f) {s₁ s₂ : State}
    (h : hideBuf s₁ = hideBuf s₂) : hideOutcome (f s₁) = hideOutcome (f s₂) := by
  rw [hf s₁, hf s₂, h]

/-! ### The operations of the state -/

theorem blind_id : Blind fun s => s := .of_comm fun _ => rfl

theorem blind_raise (f : FaultBit) : Blind (·.raise f) := .of_comm fun _ => rfl

theorem blind_lock : Blind State.lock := .of_comm fun _ => rfl

theorem blind_respond (v : Nat) : Blind (·.respond v) := .of_comm fun _ => rfl

theorem blind_setCursor (v : Nat) : Blind (·.setCursor v) := .of_comm fun _ => rfl

theorem blind_grant : Blind State.grant := .of_comm fun _ => rfl

theorem blind_idleWait : Blind State.idleWait := .of_comm fun _ => rfl

theorem blind_discardWord : Blind State.discardWord := .of_comm fun _ => rfl

theorem blind_accepted (rest : List Word) : Blind (·.accepted rest) := .of_comm fun _ => rfl

/-- A paint event carries the bytes of `BUF`, and they are what is hidden (R246). -/
theorem blind_paint : Blind State.paint := fun s => by simp [hideBuf, State.paint]

/-- A column byte, whatever it was before (R143). -/
theorem blind_setColumn (x : Nat) (v : State → Byte) : Blind fun s => s.setColumn x (v s) := fun s =>
  (hideBuf_hideBuf s).symm

theorem blind_drawPixel (p : Point) (c : Bool) : Blind (·.drawPixel p c) :=
  .ite (fun _ => Iff.rfl) blind_id <| .ite (fun _ => Iff.rfl) blind_id <| .ite (fun _ => Iff.rfl) (blind_raise .oob) <|
    blind_setColumn _ _

theorem blind_drawAll (ps : List (Point × Bool)) : Blind (·.drawAll ps) := by
  induction ps with
  | nil => exact blind_id
  | cons p ps ih => exact ih.comp (blind_drawPixel p.1 p.2)

theorem blind_closeFrame : Blind State.closeFrame :=
  .ite (fun _ => Iff.rfl) (.of_comm fun _ => rfl) blind_id

/-- A tick event reads and writes `tickCount`, `sleeping` and the responses (R240). -/
theorem blind_tick : Blind State.tick :=
  .ite (fun _ => Iff.rfl) (.of_comm fun _ => rfl) (.of_comm fun _ => rfl)

/-- After reset `BUF` holds the free values of that reset, which are hidden too (R262; log 3). -/
theorem blind_doReset : Blind State.doReset := fun s => by simp [hideBuf, State.doReset]

/-! ### The commands -/

theorem blind_execSetrate (rate : Word) : BlindOutcome (execSetrate rate) :=
  .ite (fun _ => Iff.rfl) (blind_raise .divzero).next (.of_comm fun _ => rfl)

/-- `POLL` decides on what it finds, and the bookkeeping does not change that (R123). -/
theorem execPoll_eq : execPoll = fun s =>
    if early s.build.tickw s.slack then
      if 1 < s.slack then .next s.closeFrame.idleWait else .next (s.closeFrame.respond 0)
    else .next (s.closeFrame.grant.respond 1) := by
  funext s
  rcases execPoll_cases s with ⟨hearly, hlong, e⟩ | ⟨hearly, hshort, e⟩ | ⟨hlate, e⟩
  · simp [e, hearly, hlong]
  · simp [e, hearly, Nat.not_lt.2 hshort]
  · simp [e, hlate]

theorem blind_execPoll : BlindOutcome execPoll := by
  rw [execPoll_eq]
  exact .ite (fun _ => Iff.rfl)
    (.ite (fun _ => Iff.rfl) (blind_idleWait.comp blind_closeFrame).next ((blind_respond 0).comp blind_closeFrame).next)
    ((blind_respond 1).comp (blind_grant.comp blind_closeFrame)).next

theorem blind_execLoad : BlindOutcome execLoad :=
  .ite (fun _ => Iff.rfl) ((blind_respond 0).comp (blind_raise .divzero)).next (.of_comm fun _ => rfl)

theorem blind_execEveryn (n : Word) : BlindOutcome (execEveryn n) :=
  .ite (fun _ => Iff.rfl) ((blind_respond 0).comp (blind_raise .divzero)).next (.of_comm fun _ => rfl)

theorem blind_execFlush : BlindOutcome execFlush :=
  .ite (fun _ => Iff.rfl) (Blind.next fun s => (blind_setCursor (s.cursor + 8)).comp blind_paint s)
    (blind_raise .flushx).next

/-- `CLEAR` overwrites what is hidden (R142). -/
theorem blind_execClear (col : Nibble) : BlindOutcome (execClear col) := fun s =>
  congrArg Host.Outcome.next (hideBuf_hideBuf s).symm

theorem blind_execFcircleq (x0 y0 r delta : Word) (sides col : Nibble) :
    BlindOutcome (execFcircleq x0 y0 r delta sides col) :=
  .ite (fun _ => Iff.rfl) (blind_drawAll _).next blind_lock.next

theorem blind_execChar1 (x y w3 : Word) (bg fg : Nibble) : BlindOutcome (execChar1 x y w3 bg fg) :=
  .ite (fun _ => Iff.rfl) (Blind.next fun s => blind_drawAll (s.char1Points _ _ _ _ _) s) blind_lock.next

theorem blind_execHitglyph (y w2 : Word) : BlindOutcome (execHitglyph y w2) :=
  .ite (fun _ => Iff.rfl) (.of_comm fun _ => rfl) blind_lock.next

/-- Every command is blind to `BUF`. -/
theorem blind_exec (i : Instr) : BlindOutcome (exec i) := by
  cases i with
  | setrate rate => exact blind_execSetrate rate
  | poll => exact blind_execPoll
  | load => exact blind_execLoad
  | everyn n => exact blind_execEveryn n
  | clear col => exact blind_execClear col
  | pixel x y col => exact (blind_drawPixel _ _).next
  | flush => exact blind_execFlush
  | fcircleq x0 y0 r delta sides col => exact blind_execFcircleq x0 y0 r delta sides col
  | char1 x y w3 bg fg => exact blind_execChar1 x y w3 bg fg
  | hitglyph y w2 => exact blind_execHitglyph y w2
  | char => exact Blind.next fun s => blind_drawAll (s.charPoints _ _ _ _ _ _) s
  | faults | needs | hitspan => exact .of_comm fun _ => rfl
  | vline | hline | line | rect | frect | circle | circleq | fcircle | rrect | frrect | tri | ftri =>
    exact (blind_drawAll _).next

/-! ### The turns, a step and a run -/

/-- A turn of the engine goes by `locked`, `sleeping` and the words, which are not hidden (R91). -/
theorem blind_engineTurn : BlindOutcome engineTurn := fun s => by
  rcases engineTurn_cases s with ⟨hlock, e⟩ | ⟨hlock, hsleep, e⟩ |
    ⟨hlock, hsleep, i, rest, hdecode, ⟨hwaits, e⟩ | ⟨hgoes, e⟩⟩ | ⟨hlock, hsleep, why, rest, hdecode, e⟩ |
    ⟨hlock, hsleep, hdecode, e⟩ <;> rw [e]
  · rw [engineTurn_of_locked (s := hideBuf s) hlock]
    exact blind_discardWord.next s
  · rw [engineTurn_of_sleeping (s := hideBuf s) hlock hsleep]
    exact blind_id.next s
  · rw [engineTurn_of_waits (s := hideBuf s) hlock hsleep hdecode hwaits]
    exact (Blind.of_comm (f := fun s => { s with held := encode i, channel := rest }) fun _ => rfl).next s
  · rw [engineTurn_of_command (s := hideBuf s) hlock hsleep hdecode hgoes]
    exact blind_exec i (s.accepted rest)
  · rw [engineTurn_of_illegal (s := hideBuf s) hlock hsleep hdecode]
    exact (blind_lock.comp (blind_accepted rest)).next s
  · rw [engineTurn_of_incomplete (s := hideBuf s) hlock hsleep hdecode]
    exact (Blind.of_comm (f := fun s => { s with held := s.words, channel := [] }) fun _ => rfl).next s

theorem blind_takeTurn (t : Turn) : BlindOutcome (takeTurn t) := by
  cases t with
  | hostSend w => exact .of_comm fun _ => rfl
  | hostRead => exact .of_comm fun _ => rfl
  | engine => exact blind_engineTurn
  | tick => exact blind_tick.next
  | transport ready => exact .of_comm fun _ => rfl
  | reset => exact blind_doReset.next

theorem blind_step : BlindOutcome step := fun s =>
  blind_takeTurn s.nextTurn { s with schedule := s.schedule.tail }

/-- Steps from states alike but for `BUF` end in such states. -/
theorem step_hideBuf {s₁ s₂ t₁ t₂ : State} (h : hideBuf s₁ = hideBuf s₂) (h₁ : step s₁ = .next t₁)
    (h₂ : step s₂ = .next t₂) : hideBuf t₁ = hideBuf t₂ := by
  have hstep := blind_step.congr h
  rw [h₁, h₂] at hstep
  exact Host.Outcome.next.inj hstep

end Sys2Proof.Machine

namespace Sys2Proof

open Machine Claims

/-- Settles O60, by induction on the number of steps: every step is blind to `BUF`. -/
theorem bufShowsOnlyInPaintEvents : Obligations.BufShowsOnlyInPaintEvents := by
  intro k
  induction k with
  | zero =>
    rintro s₁ s₂ _ _ h ⟨⟩ ⟨⟩
    exact h
  | succ k ih =>
    intro s₁ s₂ t₁ t₂ h hrun₁ hrun₂
    obtain ⟨u₁, hstep₁, hrest₁⟩ := run_succ_eq_next.1 hrun₁
    obtain ⟨u₂, hstep₂, hrest₂⟩ := run_succ_eq_next.1 hrun₂
    exact ih u₁ u₂ t₁ t₂ (step_hideBuf h hstep₁ hstep₂) hrest₁ hrest₂

end Sys2Proof
end

section
/-! PROOFS. What is left after drawing depends only on which pixels were attempted in which colour (`20_memory.md` R69,
R74). `Drawn` fixes the content of every column; that a column is listed in `BUF` at all is the rest of the state. -/

namespace Sys2Proof.Machine

open Claims

variable {s t : State}

/-! ### Which columns are listed -/

/-- Column `x` has been written since the last reset, so it no longer holds its free value (R60; log 3). -/
def State.Listed (s : State) (x : Nat) : Prop := Memory.find s.buf x ≠ none

/-- A listed column holds its written byte, any other none. -/
theorem State.Listed.find_buf {x : Nat} (h : s.Listed x) : Memory.find s.buf x = some (s.column x) := by
  obtain ⟨b, hb⟩ := Option.ne_none_iff_exists'.1 h
  simp [State.column, hb]

/-- Writing a column lists it and no other. -/
@[simp] theorem State.listed_setColumn (x : Nat) (v : Byte) (y : Nat) :
    (s.setColumn x v).Listed y ↔ x = y ∨ s.Listed y := by
  simp only [State.Listed, State.setColumn_buf, Memory.find_write]
  split <;> simp [*]

/-- The attempt of pixel `p` writes column `x` (R143). -/
def WritesColumn (s : State) (x : Nat) (p : Point) : Prop :=
  RowReached s p.2 ∧ p.1 = x ∧ x < s.build.width

/-- A pixel attempt lists the column it writes, and no other. -/
theorem State.listed_drawPixel (p : Point) (c : Bool) (x : Nat) :
    (s.drawPixel p c).Listed x ↔ WritesColumn s x p ∨ s.Listed x := by
  rcases s.drawPixel_cases p c with
    ⟨hrow, e⟩ | ⟨_, hedge, _, e⟩ | ⟨_, hedge, _, e⟩ | ⟨hrow, hleft, hright, e⟩ <;> rw [e]
  · simp [WritesColumn, hrow]
  · exact (or_iff_right fun ⟨_, hx, hw⟩ => by omega).symm
  · exact (or_iff_right fun ⟨_, hx, hw⟩ => by omega).symm
  · have hcol : p.1.toNat = x ↔ WritesColumn s x p :=
      ⟨fun hx => ⟨hrow, by omega, by omega⟩, fun ⟨_, hx, _⟩ => by omega⟩
    rw [State.listed_setColumn, hcol]

/-- Pixel attempts list the columns that one of them writes, and no other. -/
theorem State.listed_drawAll (ps : List (Point × Bool)) (s : State) (x : Nat) :
    (s.drawAll ps).Listed x ↔ (∃ p ∈ ps, WritesColumn s x p.1) ∨ s.Listed x := by
  induction ps generalizing s with
  | nil => simp [State.drawAll]
  | cons p ps ih =>
    have hframe : WritesColumn (s.drawPixel p.1 p.2) x = WritesColumn s x := by
      funext q
      simp [WritesColumn, RowReached]
    calc (s.drawAll (p :: ps)).Listed x
        ↔ (∃ q ∈ ps, WritesColumn s x q.1) ∨ (s.drawPixel p.1 p.2).Listed x := hframe ▸ ih (s.drawPixel p.1 p.2)
      _ ↔ (∃ q ∈ p :: ps, WritesColumn s x q.1) ∨ s.Listed x := by
        rw [State.listed_drawPixel, List.exists_mem_cons_iff, or_left_comm, or_assoc]

end Sys2Proof.Machine

namespace Sys2Proof.Claims

open Sys2Proof.Machine

variable {s t t' : State} {ink : Ink}

/-! ### `Drawn` determines the state -/

/-- The ink alone decides the content of every column. -/
theorem Drawn.column_eq (h : Drawn ink s t) (h' : Drawn ink s t') (x : Nat) : t.column x = t'.column x := by
  refine BitVec.eq_of_getLsbD_eq fun b _ => ?_
  by_cases hit : ∃ c, Hits ink s x b c
  · obtain ⟨c, hc⟩ := hit
    rw [h.inked x b c hc, h'.inked x b c hc]
  · have hno : ∀ c, ¬ Hits ink s x b c := not_exists.1 hit
    rw [h.kept x b hno, h'.kept x b hno]

/-- The ink alone decides `FAULT`. -/
theorem Drawn.fault_eq (h : Drawn ink s t) (h' : Drawn ink s t') : t.fault = t'.fault := by
  by_cases hoff : OffEdge ink s
  · rw [h.oob hoff, h'.oob hoff]
  · rw [h.noFault hoff, h'.noFault hoff]

/-- Two results of one ink with canonical buffers that list the same columns are the same state. -/
theorem Drawn.ext (h : Drawn ink s t) (h' : Drawn ink s t') {n : Nat} (hwf : Memory.wf n t.buf = true)
    (hwf' : Memory.wf n t'.buf = true) (hlisted : ∀ x, t.Listed x ↔ t'.Listed x) : t = t' := by
  have hbuf : t.buf = t'.buf := Memory.ext_wf hwf hwf' fun x => by
    by_cases hx : t.Listed x
    · rw [hx.find_buf, ((hlisted x).1 hx).find_buf, h.column_eq h' x]
    · rw [not_ne_iff.1 hx, not_ne_iff.1 (mt (hlisted x).2 hx)]
  rw [h.frame, h'.frame, hbuf, h.fault_eq h']

/-- Pixel attempts with the same members, which give no pixel two colours, leave the same state (R74). -/
theorem drawAll_congr {ps qs : List (Point × Bool)} (hwf : Memory.wf s.build.width s.buf = true)
    (hfun : ∀ p c c', (p, c) ∈ ps → (p, c') ∈ ps → c = c') (hmem : ∀ p, p ∈ ps ↔ p ∈ qs) :
    s.drawAll ps = s.drawAll qs := by
  have hps : Drawn (listInk ps) s (s.drawAll ps) := drawAll_drawn ps s hfun
  have hqs : Drawn (listInk qs) s (s.drawAll qs) :=
    drawAll_drawn qs s fun p c c' hc hc' => hfun p c c' ((hmem _).2 hc) ((hmem _).2 hc')
  have hink : Drawn (listInk ps) s (s.drawAll qs) := hqs.congr fun x y c => (hmem ((x, y), c)).symm
  exact hps.ext hink (s.drawAll_wf ps hwf) (s.drawAll_wf qs hwf) fun x => by
    simp only [State.listed_drawAll, hmem]

/-- The attempts at the pixels `ps` in one colour (R160). -/
theorem mem_map_colour {c c' : Bool} {ps : List Point} {p : Point} :
    (p, c') ∈ ps.map (fun p => (p, c)) ↔ p ∈ ps ∧ c' = c := by
  constructor
  · intro h
    obtain ⟨q, hq, e⟩ := List.mem_map.1 h
    cases e
    exact ⟨hq, rfl⟩
  · rintro ⟨hp, rfl⟩
    exact List.mem_map_of_mem hp

/-- Pixels with the same members, drawn in one colour, leave the same state. -/
theorem draw_congr {c : Bool} {ps qs : List Point} (hwf : Memory.wf s.build.width s.buf = true)
    (hmem : ∀ p, p ∈ ps ↔ p ∈ qs) : s.draw c ps = s.draw c qs :=
  drawAll_congr hwf (fun _ _ _ h h' => (mem_map_colour.1 h).2.trans (mem_map_colour.1 h').2.symm)
    fun p => by simp only [List.mem_map, hmem]

/-! ### The writes of a glyph -/

/-- The bits of a column of the cell: those of the glyph, and none in the sixth column (R211). -/
theorem getLsbD_cellColumn {c i j : Nat} (hi : i < 6) :
    (s.cellColumn c i).getLsbD j = true ↔ i < 5 ∧ (s.glyphByte c i).getLsbD j = true := by
  unfold State.cellColumn
  split
  next hblank => simp [hblank]
  next hglyph => simp [show i < 5 by omega]

/-- A logical pixel attempts its block in the colour of its bit (R211). -/
theorem mem_glyphPixel {x y : Int} {size : Nat} {bg fg : Bool} {line : Byte} {i j : Nat} {p : Point} {c : Bool} :
    (p, c) ∈ glyphPixel x y size bg fg line i j ↔
      p ∈ blockPoints x y size i j ∧ if line.getLsbD j = true then c = fg else fg ≠ bg ∧ c = bg := by
  unfold glyphPixel
  split
  next => exact mem_map_colour
  next => by_cases hcol : fg = bg <;> simp [hcol, mem_map_colour]

/-- `CHAR` attempts the pixels of the glyph cell, each in the cell's colour (R211). -/
theorem mem_charPoints {x y : Int} {ch size : Nat} {bg fg : Bool} {px py : Int} {c : Bool} :
    ((px, py), c) ∈ s.charPoints x y ch size bg fg ↔ GlyphInk s x y ch size bg fg px py c := by
  simp only [State.charPoints, GlyphInk, List.mem_flatMap, List.mem_range, mem_glyphPixel, mem_blockPoints, add_one_mul,
    ← add_assoc]
  constructor
  · rintro ⟨i, hi, j, hj, ⟨hx, hx', hy, hy'⟩, hc⟩
    exact ⟨i, j, hi, hj, hx, hx', hy, hy', by simpa only [getLsbD_cellColumn hi] using hc⟩
  · rintro ⟨i, j, hi, hj, hx, hx', hy, hy', hc⟩
    exact ⟨i, hi, j, hj, ⟨hx, hx', hy, hy'⟩, by simpa only [getLsbD_cellColumn hi] using hc⟩

/-- `CHAR1` attempts the pixels of `CHAR` at size 1, in its order (R213). -/
theorem char1Points_eq_charPoints (x y : Int) (ch : Nat) (bg fg : Bool) :
    s.char1Points x y ch bg fg = s.charPoints x y ch 1 bg fg := by
  simp [State.char1Points, State.charPoints, glyphPixel, blockPoints]

/-- Among the strips `a + i * n .. a + (i + 1) * n - 1`, the one that begins at or before `p` is not after the one that
ends behind `p`. -/
theorem strip_le {a p : Int} {n i k : Nat} (hlo : a + i * n ≤ p) (hhi : p < a + (k + 1) * n) : i ≤ k := by
  have hmul : i * n < (k + 1) * n := by
    zify
    omega
  exact Nat.lt_succ_iff.1 (Nat.lt_of_mul_lt_mul_right hmul)

/-- The blocks of a glyph cell do not meet, so each pixel has one colour (R211). -/
theorem GlyphInk.colour_unique {x y : Int} {ch size : Nat} {bg fg : Bool} {px py : Int} {c c' : Bool}
    (h : GlyphInk s x y ch size bg fg px py c) (h' : GlyphInk s x y ch size bg fg px py c') : c = c' := by
  obtain ⟨i, j, _, _, hx, hx', hy, hy', hc⟩ := h
  obtain ⟨k, l, _, _, kx, kx', ky, ky', hc'⟩ := h'
  obtain rfl : i = k := le_antisymm (strip_le hx kx') (strip_le kx hx')
  obtain rfl : j = l := le_antisymm (strip_le hy ky') (strip_le ky hy')
  split at hc
  next hset =>
    rw [if_pos hset] at hc'
    rw [hc, hc']
  next hclear =>
    rw [if_neg hclear] at hc'
    rw [hc.2, hc'.2]

/-- The attempts of `CHAR` give no pixel two colours. -/
theorem charPoints_colour_unique {x y : Int} {ch size : Nat} {bg fg : Bool} {p : Point} {c c' : Bool}
    (h : (p, c) ∈ s.charPoints x y ch size bg fg) (h' : (p, c') ∈ s.charPoints x y ch size bg fg) : c = c' :=
  (mem_charPoints.1 h).colour_unique (mem_charPoints.1 h')

end Sys2Proof.Claims

namespace Sys2Proof

open Machine Claims

/-- Settles O56: `Drawn` and the listed columns determine the state, and both go by the members of the list alone; the
blocks of a glyph cell do not meet. -/
theorem drawOrderIrrelevant : Obligations.DrawOrderIrrelevant := by
  refine ⟨fun s ps qs hinv hfun hmem => drawAll_congr hinv.bufWf hfun hmem,
    fun s c ps qs hinv hmem => draw_congr hinv.bufWf hmem,
    fun s x y ch size bg fg p c c' => ⟨charPoints_colour_unique, ?_⟩⟩
  rw [char1Points_eq_charPoints]
  exact charPoints_colour_unique

end Sys2Proof
end

section
/-! PROOFS. The decoder from the words to the command: which row a header word selects, what the decoder answers in each
of its cases, and that a command it answers has exactly the words read. -/

namespace Sys2Proof.Laws

/-! ### The fields of a word -/

/-- A word is its high byte, its `AUX` and its `COL` (R92). -/
theorem highByte_auxOf_colOf (h : Word) : highByte h ++ auxOf h ++ colOf h = h := by
  have hupper : highByte h ++ auxOf h = h.extractLsb' 4 12 := BitVec.extractLsb'_append_extractLsb'_eq_extractLsb' rfl
  exact hupper ▸ (BitVec.extractLsb'_append_extractLsb'_eq_extractLsb' rfl).trans BitVec.extractLsb'_eq_self

/-- A word is its high byte and its low byte (R11). -/
theorem highByte_lowByte (w : Word) : highByte w ++ lowByte w = w :=
  (BitVec.extractLsb'_append_extractLsb'_eq_extractLsb' rfl).trans BitVec.extractLsb'_eq_self

/-- The high byte of a word is zero exactly when a shift by eight bits leaves nothing (R99 b). -/
theorem highByte_eq_zero_iff (w : Word) : highByte w = 0 ↔ w >>> 8 = 0 := by
  simp only [highByte, ← BitVec.toNat_inj, BitVec.extractLsb'_toNat, BitVec.toNat_ushiftRight, Nat.shiftRight_eq_div_pow,
    BitVec.ofNat_eq_ofNat, BitVec.toNat_ofNat]
  omega

/-! ### The row that a header word selects -/

/-- Every row is in the table (R96). -/
theorem mem_all (o : Opcode) : o ∈ Opcode.all := by
  cases o <;> decide

/-- No two rows have the same `OP` (R96). -/
theorem code_injective : Function.Injective Opcode.code := fun o o' hcode =>
  List.inj_on_of_nodup_map (by decide : (Opcode.all.map Opcode.code).Nodup) (mem_all o) (mem_all o') hcode

/-- A header word that matches a row has the row's value in every field that lies within the row's mask (R95). -/
theorem extractLsb'_of_match {h : Word} {o : Opcode} (hmatch : h &&& o.mask = o.pattern) {start len : Nat}
    (hmask : o.mask.extractLsb' start len = BitVec.allOnes len) :
    h.extractLsb' start len = o.pattern.extractLsb' start len := by
  rw [← hmatch, BitVec.extractLsb'_and, hmask, BitVec.and_allOnes]

/-- `OP` lies within every row's mask (R95, R96). -/
theorem highByte_of_match {h : Word} {o : Opcode} (hmatch : h &&& o.mask = o.pattern) : highByte h = o.code := by
  have hmask : o.mask.extractLsb' 8 8 = BitVec.allOnes 8 := by cases o <;> rfl
  have hcode : o.pattern.extractLsb' 8 8 = o.code := by cases o <;> rfl
  exact (extractLsb'_of_match hmatch hmask).trans hcode

/-- A header word selects a row exactly when it matches it: no header matches two rows (R95). -/
theorem ofHeader_eq_some_iff {h : Word} {o : Opcode} : Opcode.ofHeader h = some o ↔ h &&& o.mask = o.pattern := by
  have hsound : ∀ {o'}, Opcode.ofHeader h = some o' → h &&& o'.mask = o'.pattern := fun hrow =>
    beq_iff_eq.1 (List.find?_some (p := fun o : Opcode => h &&& o.mask == o.pattern) hrow)
  refine ⟨hsound, fun hmatch => ?_⟩
  have hsome : (Opcode.ofHeader h).isSome := List.find?_isSome.2 ⟨o, mem_all o, beq_iff_eq.2 hmatch⟩
  obtain ⟨o', hrow⟩ := Option.isSome_iff_exists.1 hsome
  have hcode : o'.code = o.code := (highByte_of_match (hsound hrow)).symm.trans (highByte_of_match hmatch)
  rw [hrow, code_injective hcode]

/-- A header word that matches no row selects none (R95, R99 a). -/
theorem ofHeader_eq_none {h : Word} (hno : ∀ o ∈ Opcode.all, h &&& o.mask ≠ o.pattern) : Opcode.ofHeader h = none :=
  List.find?_eq_none.2 fun o ho hmatch => hno o ho (beq_iff_eq.1 hmatch)

/-! ### The header word of a row, from its fields -/

/-- A header word that selects a row is the row's `OP` with the word's own `AUX` and `COL` (R92). -/
theorem eq_header {h : Word} {o : Opcode} (hrow : Opcode.ofHeader h = some o) : h = header o (auxOf h) (colOf h) := by
  rw [header, ← highByte_of_match (ofHeader_eq_some_iff.1 hrow), highByte_auxOf_colOf]

/-- A row that does not use `AUX` has it zero (R95). -/
theorem eq_header_col {h : Word} {o : Opcode} (hrow : Opcode.ofHeader h = some o)
    (hmask : auxOf o.mask = BitVec.allOnes 4) (haux : auxOf o.pattern = 0) : h = header o 0 (colOf h) := by
  have hzero : auxOf h = 0 := (extractLsb'_of_match (ofHeader_eq_some_iff.1 hrow) hmask).trans haux
  rw [← hzero, ← eq_header hrow]

/-- A row that uses neither `AUX` nor `COL` is one header word (R95). -/
theorem eq_header_fixed {h : Word} {o : Opcode} (hrow : Opcode.ofHeader h = some o) (hmask : o.mask = BitVec.allOnes 16)
    (hpattern : o.pattern = header o 0 0) : h = header o 0 0 := by
  rw [← hpattern, ← ofHeader_eq_some_iff.1 hrow, hmask, BitVec.and_allOnes]

/-! ### The words of a command that a row reads -/

/-- The command of a row has, as its words, the header and the operand words it was made from: the row keeps every bit
of them (R92, R93). -/
theorem encode_instr {h : Word} {o : Opcode} (hrow : Opcode.ofHeader h = some o) (w : Nat → Word) :
    encode (o.instr h w) = h :: (List.range o.operands).map fun k => w (k + 1) := by
  cases o with
  | setrate | poll | load | everyn | faults | needs | flush | hitspan | hitglyph =>
    exact congrArg (· :: _) (eq_header_fixed hrow rfl rfl).symm
  | clear | pixel | vline | hline | line | rect | frect | circle | fcircle | rrect | frrect | tri | ftri =>
    exact congrArg (· :: _) (eq_header_col hrow rfl rfl).symm
  | circleq | fcircleq | char1 => exact congrArg (· :: _) (eq_header hrow).symm
  | char =>
    calc encode (.char (w 1) (w 2) (lowByte (w 3)) (highByte (w 3)) (auxOf h) (colOf h))
        = header .char (auxOf h) (colOf h) :: [w 1, w 2, highByte (w 3) ++ lowByte (w 3)] := rfl
      _ = h :: [w 1, w 2, w 3] := by rw [← eq_header hrow, highByte_lowByte]

/-- The first words of a list, read one by one. -/
theorem map_getD_range_eq_take {n : Nat} {ws : List Word} (hlen : n ≤ ws.length) :
    ((List.range n).map fun k => ws.getD k 0) = ws.take n := by
  refine List.ext_getElem (by simp [hlen]) fun k hk hk' => ?_
  have hlt : k < ws.length := (by simpa using hk : k < n).trans_le hlen
  simp [hlt]

/-! ### The cases of the decoder -/

/-- When the decoder answers a command: a header that selects a row, all of the row's operand words, and a well-formed
command (R91, R95, R98). -/
theorem decode_eq_command {ws rest : List Word} {i : Instr} (hdecode : decode ws = .command i rest) :
    ∃ h tail o, ws = h :: tail ∧ Opcode.ofHeader h = some o ∧ o.operands ≤ tail.length ∧
      i = o.instr h (fun k => tail.getD (k - 1) 0) ∧ i.WellFormed ∧ rest = tail.drop o.operands := by
  cases ws with
  | nil => simp [decode] at hdecode
  | cons h tail =>
    simp only [decode] at hdecode
    split at hdecode
    next => cases hdecode
    next o hrow =>
      split at hdecode
      next => cases hdecode
      next hall =>
        split at hdecode
        next hwf =>
          cases hdecode
          exact ⟨h, tail, o, rfl, hrow, Nat.not_lt.1 hall, rfl, hwf, rfl⟩
        next => cases hdecode

/-- A command that the decoder answers is well formed, and its words are those that were read (R91 to R98). -/
theorem eq_encode_append_of_decode {ws rest : List Word} {i : Instr} (hdecode : decode ws = .command i rest) :
    i.WellFormed ∧ ws = encode i ++ rest := by
  obtain ⟨h, tail, o, rfl, hrow, hlen, rfl, hwf, rfl⟩ := decode_eq_command hdecode
  refine ⟨hwf, ?_⟩
  simp only [encode_instr hrow, Nat.add_sub_cancel, map_getD_range_eq_take hlen, List.cons_append, List.take_append_drop]

/-- A header word that selects no row is illegal at once (R99 a). -/
theorem decode_of_noRow {h : Word} (ws : List Word) (hrow : Opcode.ofHeader h = none) :
    decode (h :: ws) = .illegal .noSuchHeader ws := by
  simp only [decode, hrow]

/-- Operand words that give an ill-formed command are illegal when all of them are there (R99 b). -/
theorem decode_of_illFormed {h : Word} {o : Opcode} {ops : List Word} (rest : List Word)
    (hrow : Opcode.ofHeader h = some o) (hlen : ops.length = o.operands)
    (hill : (o.instr h fun k => (ops ++ rest).getD (k - 1) 0).wellFormed = false) :
    decode (h :: (ops ++ rest)) = .illegal .operandNotZero rest := by
  have hall : ¬ (ops ++ rest).length < ops.length := by simp
  simp only [decode, hrow, hill, ← hlen, if_neg hall, List.drop_left, Bool.false_eq_true, if_false]

/-- An operand whose high byte must be zero, and is not (R99 b). -/
theorem highByte_bne_of_shift {w : Word} (hw : w >>> 8 ≠ 0) : (w.extractLsb' 8 8 == 0) = false :=
  beq_eq_false_iff_ne.2 (mt (highByte_eq_zero_iff w).1 hw)

/-! ### The words of an opcode-table word -/

/-- An opcode-table word that stands for a command lays down exactly the words of that command (R91, R98; log 5). -/
theorem tableCommand_of_decode {nbits w : Nat} {i : Instr} (hdecode : decodeTableWord nbits w = some i) :
    i.WellFormed ∧ tableCommand nbits w = encode i := by
  unfold decodeTableWord at hdecode
  split at hdecode
  next j rest hcommand =>
    cases hdecode
    obtain ⟨hwf, hwords⟩ := eq_encode_append_of_decode hcommand
    obtain ⟨o, aux, col, ops, hshape, hlen, hrow⟩ := encodeShape i hwf
    refine ⟨hwf, ?_⟩
    simp [tableCommand, hwords, hshape, hrow, ← hlen, Nat.add_comm 1]
  next => cases hdecode
  next => cases hdecode

end Sys2Proof.Laws

namespace Sys2Proof.Machine

variable {s : State}

/-- A command whose words the engine has before it is executed, on the state with its words taken, when the transport
does not hold it back (R91, R98, R246). -/
theorem engineTurn_of_encode (hlock : s.locked = false) (hsleep : s.sleeping = false) {i : Instr} {rest : List Word}
    (hwf : i.WellFormed) (hwords : s.words = encode i ++ rest)
    (hready : i = .flush → s.cursor < s.build.height → s.transportReady = true) :
    engineTurn s = exec i (s.accepted rest) := by
  have hdecode : decode s.words = .command i rest := hwords ▸ Laws.decode_encode_append i rest hwf
  have hgoes : s.waits i = false := by
    rw [Bool.eq_false_iff, ne_eq, State.waits_iff]
    rintro ⟨hflush, hleft, hunready⟩
    simp [hready hflush hleft] at hunready
  exact engineTurn_of_command hlock hsleep hdecode hgoes

/-- With an empty schedule, illegal words before the engine lock the block (R99). -/
theorem step_of_illegal (hsch : s.schedule = []) (hlock : s.locked = false) (hsleep : s.sleeping = false)
    {why : Illegal} {ws rest : List Word} (hwords : s.held ++ s.channel = ws) (hdecode : decode ws = .illegal why rest) :
    step s = .next (s.accepted rest).lock :=
  (step_of_schedule_nil hsch).trans (engineTurn_of_illegal hlock hsleep ((congrArg decode hwords).trans hdecode))

end Sys2Proof.Machine

namespace Sys2Proof

open Machine Claims

/-- Settles O1: each row is selected by its header, and each operand is read from where the encoder put it. -/
theorem decodeEncodeRoundTrip : Obligations.DecodeEncodeRoundTrip :=
  fun i rest hwf => Laws.decode_encode_append i rest hwf

/-- Settles O2: a selected row fixes every header bit that the command does not use, and keeps every operand bit. -/
theorem decodeReadsExactlyOneEncoding : Obligations.DecodeReadsExactlyOneEncoding :=
  fun _ _ _ hdecode => Laws.eq_encode_append_of_decode hdecode

/-- Settles O3: words of the command are still to come, so the row asks for more operand words than are there. -/
theorem decodeWaitsForAllWords : Obligations.DecodeWaitsForAllWords := by
  intro i k hwf hk
  have hleft : (encode i).drop k ≠ [] := by rwa [ne_eq, List.drop_eq_nil_iff, Nat.not_le]
  exact Laws.decode_of_encode_eq_append hwf (List.take_append_drop k (encode i)).symm hleft

/-- Settles O4: the decoder, evaluated on the words that the spec lists. -/
theorem decodeSpecExamples : Obligations.DecodeSpecExamples := by
  unfold Obligations.DecodeSpecExamples
  decide

/-- Settles O5: each of the three kinds of words is illegal, so the engine's turn locks; a locked engine discards. -/
theorem illegalCommandLocks : Obligations.IllegalCommandLocks := by
  refine ⟨fun s h ws hsch hlock hsleep hwords hno => ?_, fun s h x y w3 ws hsch hlock hsleep hwords hchar1 hw3 => ?_,
    fun s y w2 ws hsch hlock hsleep hwords hw2 => ?_, fun s hsch hlock => ?_⟩
  · exact step_of_illegal hsch hlock hsleep hwords (Laws.decode_of_noRow ws (Laws.ofHeader_eq_none hno))
  · have hrow : Opcode.ofHeader h = some .char1 := Laws.ofHeader_eq_some_iff.2 hchar1
    exact step_of_illegal hsch hlock hsleep hwords
      (Laws.decode_of_illFormed (ops := [x, y, w3]) ws hrow rfl (Laws.highByte_bne_of_shift hw3))
  · have hrow : Opcode.ofHeader 0x6100#16 = some .hitglyph := Laws.ofHeader_eq_some_iff.2 rfl
    exact step_of_illegal hsch hlock hsleep hwords
      (Laws.decode_of_illFormed (ops := [y, w2]) ws hrow rfl (Laws.highByte_bne_of_shift hw2))
  · exact (step_of_schedule_nil hsch).trans (engineTurn_of_locked hlock)

/-- Settles O7: an empty schedule and one that names the engine give its turn; the placement of an opcode-table word is
the case of an empty schedule with the words of its command in the channel. -/
theorem stepRunsDecodedCommand : Obligations.StepRunsDecodedCommand := by
  have hstep : ∀ (s : State) (i : Instr) (rest : List Word) (sch : List Turn), i.WellFormed →
      (s.schedule = [] ∧ sch = [] ∨ s.schedule = .engine :: sch) → s.locked = false → s.sleeping = false →
      s.held ++ s.channel = encode i ++ rest →
      (i = .flush → s.cursor < s.build.height → s.transportReady = true) →
      step s = exec i { s with schedule := sch, held := [], channel := rest } := by
    rintro s i rest sch hwf (⟨hsch, rfl⟩ | hsch) hlock hsleep hwords hready
    · rw [step_of_schedule_nil hsch, engineTurn_of_encode hlock hsleep hwf hwords hready, ← hsch]
      rfl
    · exact (step_of_schedule_cons hsch).trans
        (engineTurn_of_encode (s := { s with schedule := sch }) hlock hsleep hwf hwords hready)
  refine ⟨hstep, fun s nbits w i hdecode => ?_⟩
  obtain ⟨hwf, htable⟩ := Laws.tableCommand_of_decode hdecode
  rw [State.withFetchWord, htable]
  exact hstep (s.withCommand (encode i)) i [] [] hwf (.inl ⟨rfl, rfl⟩) rfl rfl (List.append_nil _).symm fun _ _ => rfl

/-- Settles O59, along what the command can do: a response is one word reduced to RESPW bits, and only a `POLL` suspends. -/
theorem oneResponsePerRespondingCommand : Obligations.OneResponsePerRespondingCommand := by
  intro s t i hwf hsleep hexec
  have hmod : ∀ v, v % 2 ^ s.build.respw < 2 ^ s.build.respw := fun v => Nat.mod_lt v (Nat.two_pow_pos _)
  cases exec_hasEffect i s t hexec with
  | draws _ ps _ hresp => simp [hresp, hsleep]
  | answers _ v hresp => simpa [hresp, hsleep] using hmod v
  | answersDivzero _ hi => rcases hi with ⟨rfl, _⟩ | ⟨n, rfl, _⟩ <;> simp [responds, hsleep]
  | suspends => simp [responds]
  | early => simp [responds, hsleep]
  | grants => simpa [responds, hsleep] using hmod 1
  | refusesRate | setsRate | clears | paints | refusesFlush => simp [responds, hsleep]
  | locks _ hill => exact absurd hwf hill

end Sys2Proof
end

section
/-! PROOFS. The frame pacer (`40_pacer.md`): tick differences against unwrapped times, the deadline test of `POLL`, and
what each pacer command answers. -/

namespace Sys2Proof.Machine

variable {s t : State}

/-! ### Differences of tick values (R120, R125) -/

/-- A difference of tick values as the integer that it is (R12). -/
theorem tickDiff_cast (t a b : Nat) : (tickDiff t a b : Int) = ((a : Int) - b) % (2 : Int) ^ t := by
  have hpos : (0 : Int) < (2 : Int) ^ t := by positivity
  rw [tickDiff, Nat.cast_pow, Nat.cast_ofNat, Int.toNat_of_nonneg (Int.emod_nonneg _ hpos.ne')]

/-- Only the values of the two times modulo 2^t count (R12). -/
theorem tickDiff_mod (t a b : Nat) : tickDiff t (a % 2 ^ t) (b % 2 ^ t) = tickDiff t a b := by
  unfold tickDiff
  rw [Int.natCast_mod, Int.natCast_mod, ← Int.sub_emod]

/-- A duration below the counter's range is measured as it is (R120). -/
theorem tickDiff_of_ahead {t k : Nat} (b : Nat) (hk : k < 2 ^ t) : tickDiff t (b + k) b = k := by
  unfold tickDiff
  rw [Nat.cast_add, add_sub_cancel_left, Int.emod_eq_of_lt (by omega) (by omega), Int.toNat_natCast]

/-- A time that lies `k` ticks back reads as one that is `2^t - k` ticks ahead (R125). -/
theorem tickDiff_of_behind {t k : Nat} (a : Nat) (hpos : 0 < k) (hk : k ≤ 2 ^ t) :
    tickDiff t a (a + k) = 2 ^ t - k := by
  have hwrap : tickDiff t a (a + k) = tickDiff t (a + 2 ^ t) (a + k) := by
    rw [← tickDiff_mod, ← tickDiff_mod t (a + 2 ^ t), Nat.add_mod_right]
  rw [hwrap, show a + 2 ^ t = a + k + (2 ^ t - k) by omega, tickDiff_of_ahead _ (by omega)]

/-- `Early(slack)`, as propositions (R125). -/
theorem early_iff {t slack : Nat} : early t slack = true ↔ 0 < slack ∧ slack < 2 ^ (t - 1) := by simp [early]

/-- The deadline test on wrapped times is the comparison of the times themselves, within half the counter's range
(R125, R272). -/
theorem early_tickDiff {t now deadline : Nat} (ht : 1 ≤ t) (hlate : now ≤ deadline + 2 ^ (t - 1))
    (hsoon : deadline < now + 2 ^ (t - 1)) :
    early t (tickDiff t (deadline % 2 ^ t) (now % 2 ^ t)) = decide (now < deadline) := by
  have hrange : 2 ^ t = 2 ^ (t - 1) + 2 ^ (t - 1) := by
    rw [← Nat.two_mul, ← Nat.pow_succ', Nat.succ_eq_add_one, Nat.sub_add_cancel ht]
  rw [tickDiff_mod, Bool.eq_iff_iff, early_iff, decide_eq_true_iff]
  rcases Nat.lt_or_ge deadline now with hpast | hahead
  · obtain ⟨k, rfl⟩ := Nat.exists_eq_add_of_lt hpast
    rw [Nat.add_assoc, tickDiff_of_behind deadline k.succ_pos (by omega)]
    omega
  · obtain ⟨k, rfl⟩ := Nat.exists_eq_add_of_le hahead
    rw [tickDiff_of_ahead now (by omega)]
    omega

/-! ### Operands, responses and the period -/

theorem unsigned_eq_zero_iff {w : Word} : unsigned w = 0 ↔ w = 0 := BitVec.toNat_inj (y := 0)

/-- A word that fits in RESPW bits is answered as it is (R101). -/
theorem State.respond_of_lt {v : Nat} (hv : v < 2 ^ s.build.respw) :
    s.respond v = { s with responses := s.responses ++ [v] } := by
  rw [State.respond_spec, Nat.mod_eq_of_lt hv]

/-- Seven bits always fit, for RESPW = TICKW + 7 (R8). -/
theorem State.respond_of_lt_128 {v : Nat} (hv : v < 128) : s.respond v = { s with responses := s.responses ++ [v] } :=
  State.respond_of_lt (hv.trans_le (Nat.pow_le_pow_right (n := 2) (i := 7) (by omega) (Nat.le_add_left ..)))

/-- A boolean response (R101). -/
theorem State.respond_boolWord (b : Bool) :
    s.respond (boolWord b) = { s with responses := s.responses ++ [if b then 1 else 0] } :=
  State.respond_of_lt_128 (by cases b <;> decide)

/-- The answer to a zero divisor (R126, R127). -/
theorem State.raise_divzero_respond_zero :
    (s.raise .divzero).respond 0 = { s with fault := s.fault ||| 0b0010#4, responses := s.responses ++ [0] } :=
  State.respond_of_lt_128 (s := s.raise .divzero) (by omega)

/-- A period is at most that of one frame in a second (R26). -/
theorem State.Inv.framePeriod_le (h : s.Inv) : s.framePeriod.toNat ≤ 1000 := by
  have hdiv : 1000 / s.frameRate.toNat ≤ 1000 := Nat.div_le_self ..
  rw [h.period]
  split <;> omega

/-- Half the counter's range is longer than any period (R8, R272). -/
theorem State.Inv.framePeriod_lt_half (h : s.Inv) : s.framePeriod.toNat < 2 ^ (s.build.tickw - 1) := by
  obtain ⟨_, _, _, _, _, htickw⟩ := h.legal
  calc s.framePeriod.toNat
      < 2 ^ 11 := h.framePeriod_le.trans_lt (by omega)
    _ ≤ 2 ^ (s.build.tickw - 1) := Nat.pow_le_pow_right (by omega) (by omega)

/-! ### `SETRATE`, `LOAD`, `EVERYN`, `FAULTS` -/

theorem execSetrate_zero : execSetrate 0 s = .next (s.raise .divzero) := rfl

/-- `SETRATE` with a nonzero rate: the period fits its register (R121). -/
theorem execSetrate_of_ne {rate : Word} (hrate : rate ≠ 0) :
    ∃ p : BitVec 16, p.toNat = max 1 (1000 / rate.toNat) ∧
      execSetrate rate s = .next { s with frameRate := rate, framePeriod := p } := by
  have hdiv : 1000 / unsigned rate ≤ 1000 := Nat.div_le_self ..
  exact ⟨_, Nat.mod_eq_of_lt (by omega), if_neg (unsigned_eq_zero_iff.not.2 hrate)⟩

theorem execLoad_of_zero (hperiod : s.framePeriod = 0) :
    execLoad s = .next { s with fault := s.fault ||| 0b0010#4, responses := s.responses ++ [0] } :=
  (if_pos hperiod).trans (congrArg Host.Outcome.next State.raise_divzero_respond_zero)

/-- The quotient of `LOAD` fits in TICKW + 7 bits: 100 is below 2^7 (R126, R130). -/
theorem load_lt (period : Nat) {duration tickw : Nat} (h : duration < 2 ^ tickw) :
    duration * 100 / period < 2 ^ (tickw + 7) :=
  calc duration * 100 / period
      ≤ duration * 100 := Nat.div_le_self ..
    _ < 2 ^ tickw * 2 ^ 7 := by omega
    _ = 2 ^ (tickw + 7) := (Nat.pow_add ..).symm

/-- `LOAD` answers the exact quotient (R126). -/
theorem execLoad_exact (hwidth : s.lastFrameDuration < 2 ^ s.build.tickw) (hperiod : s.framePeriod ≠ 0) :
    execLoad s =
      .next { s with responses := s.responses ++ [s.lastFrameDuration * 100 / s.framePeriod.toNat] } := by
  rw [execLoad, if_neg hperiod, State.respond_of_lt (load_lt _ hwidth)]

theorem execEveryn_zero :
    execEveryn 0 s = .next { s with fault := s.fault ||| 0b0010#4, responses := s.responses ++ [0] } :=
  congrArg Host.Outcome.next State.raise_divzero_respond_zero

theorem execEveryn_of_ne {n : Word} (hn : n ≠ 0) :
    execEveryn n s = .next
      { s with responses := s.responses ++ [if s.frameCounter.toNat % n.toNat = 0 then 1 else 0] } := by
  rw [execEveryn, if_neg (unsigned_eq_zero_iff.not.2 hn), State.respond_boolWord]
  simp only [beq_iff_eq, unsigned]

/-- An unlocked block has never raised ILLEGAL (R37, R128). -/
theorem State.Inv.fault_even (h : s.Inv) (hlock : s.locked = false) : s.fault.toNat % 2 = 0 := by
  have hbit : s.fault.getLsbD 0 = false := h.lockedIff.symm.trans hlock
  rw [← BitVec.testBit_toNat, Nat.testBit_zero, decide_eq_false_iff_not] at hbit
  omega

/-- A frame of 1001 ticks at one frame in a second, whose period is 1000: the quotient of `LOAD` drops this overrun. -/
def overrunByOne : State :=
  { State.reset with frameRate := 1, framePeriod := 1000, lastFrameDuration := 1001 }

theorem overrunByOne_inv : overrunByOne.Inv := by constructor <;> decide

theorem execLoad_overrunByOne : execLoad overrunByOne = .next { overrunByOne with responses := [100] } := rfl

/-! ### `POLL` -/

/-- The slack of `POLL` as the integer that it is (R123). -/
theorem State.slack_cast (s : State) :
    (s.slack : Int) = ((s.nextFrameStart : Int) - s.tickCount) % (2 : Int) ^ s.build.tickw :=
  tickDiff_cast ..

/-- `Early(slack)` on the integers (R125). -/
theorem early_iff_int {t slack : Nat} :
    early t slack = true ↔ (0 : Int) < slack ∧ (slack : Int) < (2 : Int) ^ (t - 1) := by
  rw [early_iff]
  norm_cast

/-- The bookkeeping writes the duration, the frame count and `pendingFlush` (R123). -/
theorem State.closeFrame_spec (s : State) : s.closeFrame = { s with
    lastFrameDuration := s.closeFrame.lastFrameDuration
    frameCounter := s.closeFrame.frameCounter
    pendingFlush := s.closeFrame.pendingFlush } := by
  unfold State.closeFrame
  split <;> rfl

/-- The duration that the bookkeeping records, as the integer that it is (R123). -/
theorem State.closeFrame_lastFrameDuration_cast (s : State) : (s.closeFrame.lastFrameDuration : Int) =
    if s.pendingFlush then ((s.tickCount : Int) - s.lastFrameStart) % (2 : Int) ^ s.build.tickw
    else s.lastFrameDuration := by
  rw [State.closeFrame_lastFrameDuration]
  split
  · exact tickDiff_cast ..
  · rfl

/-- `POLL` grants a frame exactly when it is not early (R123). -/
theorem execPoll_pendingFlush_iff (h : execPoll s = .next t) :
    t.pendingFlush = true ↔ early s.build.tickw s.slack = false := by
  rcases execPoll_cases s with ⟨hearly, _, e⟩ | ⟨hearly, _, e⟩ | ⟨hlate, e⟩ <;> cases e.symm.trans h
  · simp [hearly]
  · simp [hearly]
  · simp [hlate]

/-- A grant sets the deadline one period from now (R123, R129). -/
theorem execPoll_deadline (h : execPoll s = .next t) (hgrant : t.pendingFlush = true) :
    t.nextFrameStart = (s.tickCount + s.framePeriod.toNat) % 2 ^ s.build.tickw := by
  rcases execPoll_cases s with ⟨_, _, e⟩ | ⟨_, _, e⟩ | ⟨_, e⟩ <;> cases e.symm.trans h
  · simp at hgrant
  · simp at hgrant
  · simp [State.tickValue]

end Sys2Proof.Machine

namespace Sys2Proof

open Machine

/-- Settles O14, a zero and a nonzero rate apart. -/
theorem setrateResult : Obligations.SetrateResult := by
  intro s rate
  refine ⟨?_, execSetrate_of_ne⟩
  rintro rfl
  exact execSetrate_zero

/-- Settles O21: a zero divisor is answered with the fault, any other with a boolean word. -/
theorem everynResult : Obligations.EverynResult := by
  intro s n
  refine ⟨?_, execEveryn_of_ne⟩
  rintro rfl
  exact execEveryn_zero

/-- Settles O22: four bits fit the response word, and ILLEGAL is set exactly when the block is locked. -/
theorem faultsResult : Obligations.FaultsResult :=
  ⟨fun s => congrArg Host.Outcome.next (State.respond_of_lt_128 (s.fault.isLt.trans (by omega))),
    fun _ h hlock => h.fault_even hlock⟩

/-- Settles O19: the quotient fits the response word, so it is answered as it is. -/
theorem loadResult : Obligations.LoadResult :=
  fun _ hwidth => ⟨execLoad_of_zero, fun hperiod => ⟨execLoad_exact hwidth hperiod, load_lt _ hwidth⟩⟩

/-- Refutes O20: the division truncates, so an overrun by one tick of a period of 1000 still shows 100. -/
theorem not_loadExceedsHundredOnEveryOverrun : ¬ Obligations.LoadExceedsHundredOnEveryOverrun := by
  intro h
  obtain ⟨v, hload, hv⟩ := (h overrunByOne overrunByOne_inv (by decide)).2 (by decide)
  have hresp : [100] = [v] := congrArg State.responses (Host.Outcome.next.inj (execLoad_overrunByOne.symm.trans hload))
  simp only [List.cons.injEq] at hresp
  omega

/-- Settles O18: both clauses are about the modular difference of wrapped times. -/
theorem modularClockAgrees : Obligations.ModularClockAgrees :=
  ⟨fun _ _ _ hT hlate hsoon => early_tickDiff hT hlate hsoon,
    fun T g _ hk => (tickDiff_mod T _ g).trans (tickDiff_of_ahead g hk)⟩

/-- Settles O16: the deadline lies one period after the grant, which is less than half the counter's range, so the test
of the later `POLL` compares the unwrapped times. -/
theorem grantsArePeriodApart : Obligations.GrantsArePeriodApart := by
  intro s s₁ s₂ t k hinv hpoll hgrant hbuild hdeadline hnow hk hpoll'
  obtain ⟨_, _, _, _, _, htickw⟩ := hinv.legal
  have hhalf := hinv.framePeriod_lt_half
  have hearly : early s₂.build.tickw s₂.slack = decide (s.tickCount + k < s.tickCount + s.framePeriod.toNat) := by
    rw [State.slack, hbuild, hdeadline, execPoll_deadline hpoll hgrant, hnow]
    exact early_tickDiff (by omega) (by omega) (by omega)
  rw [execPoll_pendingFlush_iff hpoll', hearly, decide_eq_false_iff_not]
  omega

/-- Settles O15, along the three things that `POLL` can do after its bookkeeping: suspend, answer 0, grant. -/
theorem pollResult : Obligations.PollResult := by
  intro s
  have hearlyIff := early_iff_int (t := s.build.tickw) (slack := s.slack)
  rcases execPoll_cases s with ⟨hearly, hlong, e⟩ | ⟨hearly, hshort, e⟩ | ⟨hlate, e⟩ <;>
    refine ⟨_, e, ?_⟩ <;> rw [← s.slack_cast] <;> intro slack isEarly
  · have his : isEarly := hearlyIff.1 hearly
    refine ⟨s.closeFrame_lastFrameDuration_cast, s.closeFrame_frameCounter, fun _ => ?_, absurd his, ?_⟩
    · have hnot : ¬ slack ≤ 1 := by omega
      simp [hnot]
    · rw [State.closeFrame_spec]
      rfl
  · have his : isEarly := hearlyIff.1 hearly
    refine ⟨s.closeFrame_lastFrameDuration_cast, s.closeFrame_frameCounter, fun _ => ?_, absurd his, ?_⟩
    · have hnot : ¬ 1 < slack := by omega
      simp [hnot]
    · rw [State.closeFrame_spec]
      rfl
  · have hnot : ¬ isEarly := hearlyIff.not.1 (by simp [hlate])
    refine ⟨s.closeFrame_lastFrameDuration_cast, s.closeFrame_frameCounter, (absurd · hnot), fun _ => ?_, ?_⟩
    · have hone : 1 % 2 ^ s.build.respw = 1 := Nat.mod_eq_of_lt (Nat.one_lt_two_pow (Nat.succ_ne_zero _))
      simp [State.tickValue, hone]
    · rw [State.closeFrame_spec]
      rfl

end Sys2Proof
end

section
/-! PROOFS. The band (`41_band.md`): what each band command answers, the pixel micro-operation as a drawing of one pixel, and
runs of `FLUSH`. -/

namespace Sys2Proof.Machine

open Claims

variable {s : State}

/-! ### NEEDS and CLEAR -/

/-- `NEEDS` answers whether the cursor is below HEIGHT (R141). -/
theorem execNeeds_eq (s : State) :
    execNeeds s = .next { s with responses := s.responses ++ [if s.cursor < s.build.height then 1 else 0] } := by
  simp only [execNeeds, State.respond_boolWord, decide_eq_true_eq]

/-- A column of a buffer filled with one byte (R142). -/
theorem State.column_filled (v : Byte) {x : Nat} (hx : x < s.build.width) :
    { s with buf := Memory.filled s.build.width v }.column x = v := by
  simp [State.column, hx]

/-- A colour field picks its second value when it is zero (R14). -/
theorem ite_norm {α : Type} (col : Nibble) (fg bg : α) :
    (if norm col then fg else bg) = if col = 0 then bg else fg := by
  by_cases hcol : col = 0 <;> simp [norm, hcol]

/-! ### The pixel micro-operation -/

/-- `DrawPixel` draws its one pixel, wherever it lies (R143). -/
theorem drawPixel_drawn (s : State) (x y : Int) (c : Bool) :
    Drawn (inColour c fun px py => px = x ∧ py = y) s (s.drawPixel (x, y) c) :=
  draw_drawn c [(x, y)] _ s fun _ _ => by rw [List.mem_singleton, Prod.mk.injEq]

/-- A row above or below the eight rows from the cursor is not reached (R145). -/
theorem not_rowReached_of_offBand {y : Int} (hoff : y < s.cursor ∨ (s.cursor : Int) + 8 ≤ y) : ¬ RowReached s y := by
  rintro ⟨hband, _⟩
  obtain ⟨_, hlo, hhi⟩ := (band_eq_iff y s.cursor).1 hband
  omega

/-- `DrawPixel` on a row that is not reached does nothing (R143). -/
theorem State.drawPixel_of_not_rowReached {p : Point} (c : Bool) (hrow : ¬ RowReached s p.2) : s.drawPixel p c = s := by
  rcases s.drawPixel_cases p c with ⟨_, e⟩ | ⟨hreached, _⟩ | ⟨hreached, _⟩ | ⟨hreached, _⟩
  · exact e
  all_goals exact absurd hreached hrow

/-! ### FLUSH, once and again and again -/

/-- The state after `k` bands have been handed over from `s`, one below the other (R146). -/
def State.flushed (s : State) (k : Nat) : State :=
  { s with cursor := s.cursor + 8 * k
           paints := s.paints ++ (List.range k).map fun j => { cursor := s.cursor + 8 * j, bytes := s.bytes } }

/-- Handing over no band is no change. -/
@[simp] theorem State.flushed_zero (s : State) : s.flushed 0 = s := by simp [State.flushed]

/-- Handing over one band and then `k` is handing over `k + 1`. -/
theorem State.flushed_one_flushed (s : State) (k : Nat) : (s.flushed 1).flushed k = s.flushed (k + 1) := by
  have hcursor (j : Nat) : s.cursor + 8 * 1 + 8 * j = s.cursor + 8 * (j + 1) := by omega
  have hpaints : (s.flushed 1).paints ++ (List.range k).map (fun j => ⟨s.cursor + 8 * 1 + 8 * j, s.bytes⟩) =
      (s.flushed (k + 1)).paints := by
    simp [State.flushed, hcursor, List.range_succ_eq_map]
  calc (s.flushed 1).flushed k
      = { s with cursor := s.cursor + 8 * 1 + 8 * k
                 paints := (s.flushed 1).paints ++
                   (List.range k).map fun j => ⟨s.cursor + 8 * 1 + 8 * j, s.bytes⟩ } := rfl
    _ = s.flushed (k + 1) := by rw [hpaints, hcursor]; rfl

/-- With a whole band left, `FLUSH` hands it over (R146); the new cursor fits its register (R24). -/
theorem execFlush_eq_flushed (hband : s.cursor + 8 ≤ s.build.height) : execFlush s = .next (s.flushed 1) := by
  have hcursor : (s.cursor + 8) % 2 ^ s.build.curw = s.cursor + 8 := State.setCursor_cursor_of_le hband
  rw [execFlush_of_lt (by omega)]
  simp [State.setCursor, State.paint, State.flushed, hcursor]

/-- As many `FLUSH` commands as there are bands left hand these over (R151 c). -/
theorem execs_replicate_flush {k : Nat} (hbands : s.cursor + 8 * k ≤ s.build.height) :
    execs (List.replicate k .flush) s = .next (s.flushed k) := by
  induction k generalizing s with
  | zero => simp
  | succ k ih =>
    have hfirst : exec .flush s = .next (s.flushed 1) := execFlush_eq_flushed (by omega)
    have hrest : execs (List.replicate k .flush) (s.flushed 1) = .next ((s.flushed 1).flushed k) :=
      ih (show s.cursor + 8 * 1 + 8 * k ≤ s.build.height by omega)
    rw [List.replicate_succ, execs_cons_next]
    exact ⟨_, hfirst, s.flushed_one_flushed k ▸ hrest⟩

/-- The cursor after `k` bands from the top is below HEIGHT exactly when a band is left (R8, R9). -/
theorem lt_height_iff_lt_nbands {p : Params} (hlegal : p.Legal) (k : Nat) : 8 * k < p.height ↔ k < p.nbands := by
  obtain ⟨_, _, hheight, _⟩ := hlegal
  unfold Params.nbands
  omega

end Sys2Proof.Machine

namespace Sys2Proof

open Machine

/-- Settles O23. -/
theorem needsResult : Obligations.NeedsResult := execNeeds_eq

/-- Settles O24: the filled buffer lists every column, so nothing of the old content or of a free value is left. -/
theorem clearResult : Obligations.ClearResult :=
  fun _ col => ⟨_, rfl, rfl, fun _ hx => (State.column_filled _ hx).trans (ite_norm col _ _)⟩

/-- Settles O25: `PIXEL` is one `DrawPixel`, which draws a list of one pixel. -/
theorem pixelResult : Obligations.PixelResult :=
  ⟨fun s x y col => ⟨_, rfl, drawPixel_drawn s x.toInt y.toInt (col != 0)⟩, drawPixel_drawn⟩

/-- Settles O26: the row is not reached, which is the first thing that `DrawPixel` can find. -/
theorem offBandPixelDiscarded : Obligations.OffBandPixelDiscarded :=
  fun _ x y col hoff => congrArg Host.Outcome.next
    (State.drawPixel_of_not_rowReached (p := (signed x, signed y)) (norm col) (not_rowReached_of_offBand hoff))

/-- Settles O27: below HEIGHT an aligned cursor has a whole band left; at HEIGHT `FLUSH` is refused. -/
theorem flushResult : Obligations.FlushResult :=
  fun _ hinv => ⟨fun hlt => execFlush_eq_flushed (hinv.band_left hlt), fun hend => execFlush_of_le hend.ge⟩

/-- Settles O28, by induction on the number of flushes from any cursor with that many bands left. -/
theorem flushSequence : Obligations.FlushSequence := by
  intro s k hinv hcursor hk
  have hbands : s.cursor + 8 * k ≤ s.build.height := by
    unfold Params.nbands at hk
    omega
  have hneeds : (s.flushed k).cursor < s.build.height ↔ k < s.build.nbands := by
    rw [State.flushed, hcursor, Nat.zero_add, lt_height_iff_lt_nbands hinv.legal]
  refine ⟨s.flushed k, execs_replicate_flush hbands, ?_, ?_⟩
  · simp only [State.flushed, hcursor, Nat.zero_add]
  · rw [← if_congr hneeds rfl rfl]
    exact execNeeds_eq (s.flushed k)

end Sys2Proof
end

section
/-! PROOFS. Straight lines and rectangles (`42_lines_rects.md`): the error accumulator of `Line` in closed form, which pixels
the outlines and fills attempt, and runs of `VLINE`. -/

namespace Sys2Proof.Machine

open Claims

/-! ### The error accumulator -/

/-- How many minor steps the loop of `Line` takes before it draws its k-th pixel, when its accumulator starts at `err`. -/
def stepsFrom (dx dy err k : Int) : Int := (k * dy + dx - 1 - err) / dx

/-- From `err = dx div 2`, where `Line` starts, these are the steps of its closed form (R163). -/
theorem stepsFrom_half (dx dy k : Int) : stepsFrom dx dy (dx / 2) k = minorSteps dx dy k := rfl

/-- The values that the accumulator takes: it is never negative, and below `dx` unless the line is one pixel (R163). -/
def ErrOk (dx err : Int) : Prop := 0 ≤ err ∧ (err < dx ∨ dx = 0)

/-- The accumulator starts at such a value. -/
theorem errOk_half {dx : Int} (hdx : 0 ≤ dx) : ErrOk dx (dx / 2) :=
  ⟨by omega, by omega⟩

/-- The first pixel of the loop is drawn before any step. -/
theorem stepsFrom_zero {dx err : Int} (dy : Int) (herr : ErrOk dx err) : stepsFrom dx dy err 0 = 0 := by
  obtain ⟨hnonneg, hlt | rfl⟩ := herr
  · exact Int.ediv_eq_zero_of_lt (by omega) (by omega)
  · exact Int.ediv_zero _

/-- An iteration in which the accumulator stays nonnegative takes no step (R163). -/
theorem stepsFrom_sub (dx dy err k : Int) : stepsFrom dx dy (err - dy) k = stepsFrom dx dy err (k + 1) := by
  unfold stepsFrom
  congr 1
  ring

/-- An iteration in which the accumulator is re-armed takes one step (R163). -/
theorem stepsFrom_rearm {dx : Int} (hdx : dx ≠ 0) (dy err k : Int) :
    1 + stepsFrom dx dy (err - dy + dx) k = stepsFrom dx dy err (k + 1) := by
  unfold stepsFrom
  rw [add_comm, ← Int.add_mul_ediv_right _ 1 hdx]
  congr 1
  ring

/-- With no minor distance there is no step (R164). -/
theorem stepsFrom_flat {dx err : Int} (k : Int) (herr : ErrOk dx err) : stepsFrom dx 0 err k = 0 := by
  simpa [stepsFrom] using stepsFrom_zero 0 herr

/-! ### The loop of LINE -/

/-- The pixel at a major and a minor coordinate: the axes swap when the line is steep (R163). -/
def place (steep : Bool) (major minor : Int) : Point := if steep then (minor, major) else (major, minor)

/-- Pixels agree exactly when their coordinates along both axes do. -/
theorem place_inj {steep : Bool} {a b a' b' : Int} : place steep a b = place steep a' b' ↔ a = a' ∧ b = b' := by
  cases steep <;> simp [place, and_comm]

/-- The loop draws its k-th pixel at distance k along the major axis, after the steps of the closed form (R163). -/
theorem lineLoop_eq_map {steep : Bool} {dx dy ystep : Int} (hdy : 0 ≤ dy) (hle : dy ≤ dx) (n : Nat) (x y err : Int)
    (herr : ErrOk dx err) :
    lineLoop steep dx dy ystep n x y err =
      (List.range n).map fun k : Nat => place steep (x + k) (y + ystep * stepsFrom dx dy err k) := by
  induction n generalizing x y err with
  | zero => rfl
  | succ n ih =>
    have hfirst : place steep (x + (0 : Nat)) (y + ystep * stepsFrom dx dy err (0 : Nat)) =
        if steep then (y, x) else (x, y) := by
      simp [place, stepsFrom_zero dy herr]
    rw [List.range_succ_eq_map, List.map_cons, hfirst, List.map_map, lineLoop]
    obtain ⟨hnonneg, hlt⟩ := herr
    congr 1
    split
    next hneg =>
      have hdx : dx ≠ 0 := by omega
      rw [ih _ _ _ ⟨by omega, by omega⟩]
      refine List.map_congr_left fun k _ => place_inj.2 ⟨by push_cast; ring, ?_⟩
      rw [Nat.cast_succ, ← stepsFrom_rearm hdx]
      ring
    next hpos =>
      rw [ih _ _ _ ⟨by omega, by omega⟩]
      refine List.map_congr_left fun k _ => place_inj.2 ⟨by push_cast; ring, ?_⟩
      rw [Nat.cast_succ, ← stepsFrom_sub]

/-! ### LINE -/

/-- In its working frame `Line` draws its closed form, one pixel at each major coordinate (R163). -/
theorem lineFrame_eq_map {steep : Bool} {x0 y0 x1 y1 : Int} (hshallow : |y1 - y0| ≤ x1 - x0) :
    lineFrame steep x0 y0 x1 y1 = (List.range (x1 - x0 + 1).toNat).map fun k : Nat =>
      place steep (x0 + k) (y0 + (if y0 < y1 then 1 else -1) * minorSteps (x1 - x0) |y1 - y0| k) := by
  rw [lineFrame, ← Int.abs_eq_natAbs]
  exact lineLoop_eq_map (abs_nonneg _) hshallow _ _ _ _ (errOk_half ((abs_nonneg _).trans hshallow))

/-- Which pixels `Line` attempts in its working frame (R163). -/
theorem mem_lineFrame {steep : Bool} {x0 y0 x1 y1 major minor : Int} (hshallow : |y1 - y0| ≤ x1 - x0) :
    place steep major minor ∈ lineFrame steep x0 y0 x1 y1 ↔ OnLineFrame x0 y0 x1 y1 major minor := by
  simp only [lineFrame_eq_map hshallow, List.mem_map, List.mem_range, place_inj, OnLineFrame]
  constructor
  · rintro ⟨k, hk, rfl, rfl⟩
    refine ⟨by omega, by omega, ?_⟩
    rw [add_sub_cancel_left]
  · rintro ⟨hlo, hhi, hminor⟩
    have hk : (((major - x0).toNat : Nat) : Int) = major - x0 := Int.toNat_of_nonneg (by omega)
    exact ⟨(major - x0).toNat, by omega, by omega, by rw [hk, hminor]⟩

/-- Which pixels `Line` attempts once the axes are settled, whichever endpoint comes first (R163). -/
theorem mem_lineOrdered {steep : Bool} {x0 y0 x1 y1 major minor : Int} (hshallow : |y1 - y0| ≤ |x1 - x0|) :
    place steep major minor ∈ lineOrdered steep x0 y0 x1 y1 ↔ OnLineOrdered x0 y0 x1 y1 major minor := by
  unfold lineOrdered OnLineOrdered
  split
  next hdown =>
    rw [abs_sub_comm y1, abs_sub_comm x1, abs_of_pos (sub_pos.2 hdown)] at hshallow
    exact mem_lineFrame hshallow
  next hup =>
    rw [abs_of_nonneg (sub_nonneg.2 (not_lt.1 hup))] at hshallow
    exact mem_lineFrame hshallow

/-- The axes swap by the test of the closed form (R163). -/
theorem linePoints_eq (x0 y0 x1 y1 : Int) : linePoints x0 y0 x1 y1 =
    if |y1 - y0| > |x1 - x0| then lineOrdered true y0 x0 y1 x1 else lineOrdered false x0 y0 x1 y1 := by
  simp only [linePoints, Int.abs_eq_natAbs, gt_iff_lt, Nat.cast_lt]

/-- `Line` attempts the pixels of its closed form (R163). -/
theorem mem_linePoints (x0 y0 x1 y1 px py : Int) : (px, py) ∈ linePoints x0 y0 x1 y1 ↔ OnLine x0 y0 x1 y1 px py := by
  rw [linePoints_eq, OnLine]
  split
  next hsteep => exact mem_lineOrdered (steep := true) hsteep.le
  next hshallow => exact mem_lineOrdered (steep := false) (not_lt.1 hshallow)

/-- Exchanging the endpoints of a shallow line leaves its working frame as it was: when the reordering cannot tell them
apart, they are one pixel (R163). -/
theorem lineOrdered_comm {steep : Bool} {x0 y0 x1 y1 : Int} (hshallow : |y1 - y0| ≤ |x1 - x0|) :
    lineOrdered steep x0 y0 x1 y1 = lineOrdered steep x1 y1 x0 y0 := by
  unfold lineOrdered
  rcases lt_trichotomy x0 x1 with hlt | rfl | hgt
  · rw [if_neg hlt.not_gt, if_pos hlt]
  · rw [sub_self, abs_zero, abs_nonpos_iff, sub_eq_zero] at hshallow
    rw [hshallow]
  · rw [if_pos hgt, if_neg hgt.not_gt]

/-- Exchanging the endpoints of a line leaves its pixels and their order as they were (R163). -/
theorem linePoints_comm (x0 y0 x1 y1 : Int) : linePoints x0 y0 x1 y1 = linePoints x1 y1 x0 y0 := by
  rw [linePoints_eq, linePoints_eq, abs_sub_comm y0, abs_sub_comm x0]
  split
  next hsteep => exact lineOrdered_comm hsteep.le
  next hshallow => exact lineOrdered_comm (not_lt.1 hshallow)

/-! ### Axis-aligned lines -/

/-- In its working frame a line whose minor coordinates agree never steps (R164). -/
theorem lineFrame_flat {steep : Bool} {x0 x1 : Int} (y : Int) (hle : x0 ≤ x1) :
    lineFrame steep x0 y x1 y = (List.range (x1 - x0 + 1).toNat).map fun k : Nat => place steep (x0 + k) y := by
  rw [lineFrame_eq_map (by rw [sub_self, abs_zero]; omega)]
  refine List.map_congr_left fun k _ => place_inj.2 ⟨rfl, ?_⟩
  rw [sub_self, abs_zero, ← stepsFrom_half, stepsFrom_flat k (errOk_half (by omega)), mul_zero, add_zero]

/-- A line whose minor coordinates agree is a span along the major axis from the lesser endpoint (R164). -/
theorem lineOrdered_flat (steep : Bool) (x0 x1 y : Int) : lineOrdered steep x0 y x1 y =
    (List.range (|x1 - x0| + 1).toNat).map fun k : Nat => place steep (min x0 x1 + k) y := by
  unfold lineOrdered
  split
  next hdown => rw [lineFrame_flat y hdown.le, min_eq_right hdown.le, abs_sub_comm, abs_of_pos (sub_pos.2 hdown)]
  next hup =>
    have hle : x0 ≤ x1 := not_lt.1 hup
    rw [lineFrame_flat y hle, min_eq_left hle, abs_of_nonneg (sub_nonneg.2 hle)]

/-- A horizontal line is a horizontal span (R164). -/
theorem linePoints_horizontal (x0 x1 y : Int) : linePoints x0 y x1 y = hlinePoints (min x0 x1) y (|x1 - x0| + 1) := by
  have hshallow : ¬ |y - y| > |x1 - x0| := by
    rw [sub_self, abs_zero]
    exact (abs_nonneg _).not_gt
  rw [linePoints_eq, if_neg hshallow]
  exact lineOrdered_flat false x0 x1 y

/-- A vertical line is a vertical span; the line of one pixel is the only one of them that is not steep (R164). -/
theorem linePoints_vertical (x y0 y1 : Int) : linePoints x y0 x y1 = vlinePoints x (min y0 y1) (|y1 - y0| + 1) := by
  rcases eq_or_ne y0 y1 with rfl | hne
  · rw [linePoints_horizontal]
    simp [hlinePoints, vlinePoints]
  · have hsteep : |y1 - y0| > |x - x| := by
      rw [sub_self, abs_zero]
      exact abs_pos.2 (sub_ne_zero.2 hne.symm)
    rw [linePoints_eq, if_pos hsteep]
    exact lineOrdered_flat true y0 y1 x

/-! ### Rectangles -/

/-- `RECT` attempts the pixels on the edges of its rectangle (R165). -/
theorem mem_rectPoints (x y w h px py : Int) : (px, py) ∈ rectPoints x y w h ↔ OnRect x y w h px py := by
  unfold rectPoints
  split
  next hempty =>
    simp only [List.not_mem_nil, false_iff, OnRect, InRect]
    omega
  next hsome =>
    simp only [List.mem_append, mem_hlinePoints, mem_vlinePoints, OnHLine, OnVLine, OnRect, InRect]
    omega

/-- Vertical spans in the columns `x .. x+n-1`, taken in any order, attempt the pixels of the rectangle (R166, R167). -/
theorem mem_flatMap_vlinePoints {ks : List Nat} {w : Int} (hks : ∀ k, k ∈ ks ↔ k < w.toNat) (x y h px py : Int) :
    (px, py) ∈ ks.flatMap (fun k : Nat => vlinePoints (x + k) y h) ↔ InRect x y w h px py := by
  simp only [List.mem_flatMap, hks, mem_vlinePoints, OnVLine, InRect]
  constructor
  · rintro ⟨k, hk, rfl, htop, hbottom⟩
    exact ⟨by omega, by omega, htop, hbottom⟩
  · rintro ⟨hleft, hright, htop, hbottom⟩
    exact ⟨(px - x).toNat, by omega, by omega, htop, hbottom⟩

/-- `FRECT` attempts the pixels of its rectangle (R166). -/
theorem mem_frectPoints (x y w h px py : Int) : (px, py) ∈ frectPoints x y w h ↔ InRect x y w h px py :=
  mem_flatMap_vlinePoints (fun _ => List.mem_range) x y h px py

/-! ### A run of VLINE commands -/

/-- Drawing two lists of pixels, one after the other, is drawing their concatenation (R160). -/
theorem State.draw_append (s : State) (c : Bool) (ps qs : List Point) :
    s.draw c (ps ++ qs) = (s.draw c ps).draw c qs := by
  simp only [State.draw, State.drawAll, List.map_append, List.foldl_append]

/-- `VLINE` commands in the columns `x + k` draw the concatenation of their spans. -/
theorem execs_map_vline (x y h : Word) (col : Nibble) (ks : List Nat) (s : State) :
    execs (ks.map fun k => .vline (x + BitVec.ofNat 16 k) y h col) s =
      .next (s.draw (norm col) (ks.flatMap fun k =>
        vlinePoints (signed (x + BitVec.ofNat 16 k)) (signed y) (signed h))) := by
  induction ks generalizing s with
  | nil => rfl
  | cons k ks ih =>
    rw [List.map_cons, execs_cons_next]
    exact ⟨_, rfl, by rw [ih, List.flatMap_cons, State.draw_append]⟩

/-- The column `x + k` of an operand that stays within the range of a word (R10, R167). -/
theorem signed_add_ofNat {x : Word} {k : Nat} (hk : signed x + k < 32768) :
    signed (x + BitVec.ofNat 16 k) = signed x + k := by
  unfold signed at *
  have hlo : -32768 ≤ x.toInt := BitVec.le_toInt x
  rw [BitVec.toInt_add, BitVec.toInt_ofNat', Int.add_bmod_bmod]
  exact Int.bmod_eq_of_le (by omega) (by omega)

/-- The `VLINE` commands of the columns `x .. x+w-1` in any order: a run over a permutation of the column numbers. -/
theorem exists_perm_of_perm_vlineColumns {x y h w : Word} {col : Nibble} {is : List Instr}
    (hperm : is.Perm (vlineColumns x y h w col)) :
    ∃ ks : List Nat, ks.Perm (List.range w.toInt.toNat) ∧
      is = ks.map fun k => .vline (x + BitVec.ofNat 16 k) y h col := by
  obtain ⟨ks, his, hks⟩ := (congrFun₂ (List.eq_map_comp_perm _) is (List.range w.toInt.toNat)).mpr hperm
  exact ⟨ks, hks, his⟩

end Sys2Proof.Machine

namespace Sys2Proof

open Machine Claims

/-- Settles O31. -/
theorem vlineResult : Obligations.VlineResult :=
  fun s _ _ _ col => ⟨_, rfl, draw_drawn (norm col) _ _ s (mem_vlinePoints _ _ _)⟩

/-- Settles O32. -/
theorem hlineResult : Obligations.HlineResult :=
  fun s _ _ _ col => ⟨_, rfl, draw_drawn (norm col) _ _ s (mem_hlinePoints _ _ _)⟩

/-- Settles O33: the loop keeps its accumulator within bounds, so that its k-th pixel is that of the closed form. -/
theorem lineResult : Obligations.LineResult :=
  fun s _ _ _ _ col => ⟨_, rfl, draw_drawn (norm col) _ _ s (mem_linePoints _ _ _ _)⟩

/-- Settles O34: both lines attempt the same pixels in the same order. -/
theorem lineEndpointsExchange : Obligations.LineEndpointsExchange :=
  fun s x0 y0 x1 y1 col => congrArg (fun ps => Host.Outcome.next (s.draw (norm col) ps))
    (linePoints_comm (signed x0) (signed y0) (signed x1) (signed y1))

/-- Settles O35. -/
theorem axisAlignedLines : Obligations.AxisAlignedLines := ⟨linePoints_horizontal, linePoints_vertical⟩

/-- Settles O36. -/
theorem rectResult : Obligations.RectResult :=
  fun s _ _ _ _ col => ⟨_, rfl, draw_drawn (norm col) _ _ s (mem_rectPoints _ _ _ _)⟩

/-- Settles O37. -/
theorem frectResult : Obligations.FrectResult :=
  fun s _ _ _ _ col => ⟨_, rfl, draw_drawn (norm col) _ _ s (mem_frectPoints _ _ _ _)⟩

/-- Settles O38: both draw the pixels of the rectangle in one colour, and the order of these does not matter. -/
theorem frectEqualsVlines : Obligations.FrectEqualsVlines := by
  intro s x y w h col is hinv hwidth hperm
  obtain ⟨ks, hks, rfl⟩ := exists_perm_of_perm_vlineColumns hperm
  have hmem (k : Nat) : k ∈ ks ↔ k < w.toInt.toNat := hks.mem_iff.trans List.mem_range
  have hcolumn : ∀ k ∈ ks, vlinePoints (signed (x + BitVec.ofNat 16 k)) (signed y) (signed h) =
      vlinePoints (signed x + k) (signed y) (signed h) := fun k hk => by
    have hlt := (hmem k).1 hk
    rw [signed_add_ofNat (by unfold signed; omega)]
  rw [execs_map_vline, List.flatMap_congr hcolumn]
  exact congrArg Host.Outcome.next (draw_congr hinv.bufWf fun p =>
    (mem_flatMap_vlinePoints hmem _ _ _ p.1 p.2).trans (mem_frectPoints _ _ _ _ p.1 p.2).symm)

end Sys2Proof
end

section
/-! PROOFS. Circles and rounded rectangles (`43_circles_roundrects.md`): the midpoint iteration against the circle's equation,
which pixels the circle procedures attempt, and where the rounded rectangles lie. -/

namespace Sys2Proof.Machine

open Claims

/-! ### The midpoint iteration -/

/-- The circle's equation at the midpoint below (i + 1, j): not negative when that midpoint is not inside the circle (R181). -/
def midpointTest (r i j : Int) : Int := (i + 1) ^ 2 + j ^ 2 - j - r ^ 2

/-- At (0, r), where `Octant` starts, the test is its `f` (R181). -/
theorem midpointTest_start (r : Int) : midpointTest r 0 r = 1 - r := by
  unfold midpointTest
  ring

/-- What `f` grows by when `j` stays (R181). -/
theorem midpointTest_straight (r i j : Int) : midpointTest r i j + (2 * i + 1 + 2) = midpointTest r (i + 1) j := by
  unfold midpointTest
  ring

/-- What `f` grows by when `j` falls (R181). -/
theorem midpointTest_diagonal (r i j : Int) :
    midpointTest r i j + (-2 * j + 2) + (2 * i + 1 + 2) = midpointTest r (i + 1) (j - 1) := by
  unfold midpointTest
  ring

/-- The loop of `Octant` keeps `f` at the circle's equation and `ddx`, `ddy` at its differences, and, allowed an iteration
for each step that separates `i` from `j`, ends by its own test (R181). -/
theorem octantFrom_octantLoop {r i j : Int} {n : Nat} (hn : j - i ≤ n) :
    OctantFrom r i j (octantLoop n (midpointTest r i j) (2 * i + 1) (-2 * j) i j) := by
  induction n generalizing i j with
  | zero => exact (by omega : j ≤ i)
  | succ n ih =>
    have hddx : 2 * i + 1 + 2 = 2 * (i + 1) + 1 := by ring
    have hddy : -2 * j + 2 = -2 * (j - 1) := by ring
    rw [octantLoop]
    split
    next hlt =>
      split
      next hout =>
        refine ⟨hlt, by rw [if_pos]; exact hout, ?_⟩
        rw [midpointTest_diagonal, hddx, hddy]
        exact ih (by omega)
      next hin =>
        refine ⟨hlt, by rw [if_neg]; exact hin, ?_⟩
        rw [midpointTest_straight, hddx]
        exact ih (by omega)
    next hge => exact not_lt.1 hge

/-- The loop from where `Octant` starts, with enough iterations allowed (R181). -/
theorem octantFrom_start {r : Int} {n : Nat} (hn : r.toNat ≤ n) :
    OctantFrom r 0 r (octantLoop n (1 - r) 1 (-2 * r) 0 r) := by
  rw [← midpointTest_start]
  exact octantFrom_octantLoop (by omega)

/-- `Octant(r)` is the list of the circle's equation (R181). -/
theorem octantFrom_octant (r : Int) : OctantFrom r 0 r (octant r) := octantFrom_start le_rfl

/-- The circle's equation determines the list of pairs. -/
theorem octantFrom_unique {r i j : Int} {ps qs : List Point} (hps : OctantFrom r i j ps) (hqs : OctantFrom r i j qs) :
    ps = qs := by
  induction ps generalizing i j qs with
  | nil =>
    cases qs with
    | nil => rfl
    | cons q qs => exact absurd hqs.1 (not_lt.2 hps)
  | cons p ps ih =>
    cases qs with
    | nil => exact absurd hps.1 (not_lt.2 hqs)
    | cons q qs =>
      obtain ⟨-, rfl, hps⟩ := hps
      obtain ⟨-, rfl, hqs⟩ := hqs
      rw [ih hps hqs]

/-- From (i, j) on, the pairs stay within `i` and `j`: a next pair needs `i < j`, and `j` falls by at most 1 (R181). -/
theorem bounds_of_octantFrom {r i j i' j' : Int} {ps : List Point} (hps : OctantFrom r i j ps) (hmem : (i', j') ∈ ps) :
    i < i' ∧ i' ≤ j ∧ i ≤ j' ∧ j' ≤ j := by
  induction ps generalizing i j with
  | nil => exact absurd hmem List.not_mem_nil
  | cons p ps ih =>
    obtain ⟨hlt, rfl, hps⟩ := hps
    rcases List.mem_cons.1 hmem with heq | hmem
    · obtain ⟨rfl, rfl⟩ := Prod.mk.inj heq
      split <;> omega
    · obtain ⟨hi, hj, hi', hj'⟩ := ih hps hmem
      split at hj
      · split at hj' <;> omega
      · split at hj' <;> omega

/-- The pairs of `Octant(r)` lie within the radius (R181). -/
theorem octant_bounds {r i j : Int} (hmem : (i, j) ∈ octant r) : 1 ≤ i ∧ i ≤ r ∧ 0 ≤ j ∧ j ≤ r :=
  bounds_of_octantFrom (octantFrom_octant r) hmem

/-- Without a positive radius there are no pairs (R181). -/
theorem octant_of_nonpos {r : Int} (hr : r ≤ 0) : octant r = [] := by
  rw [octant, Int.toNat_of_nonpos hr, octantLoop]

/-- With a positive radius the first pair reaches the full radius along one axis: it is (1, r), or (1, 0) when r = 1. -/
theorem exists_octant_full {r : Int} (hr : 0 < r) : ∃ i j, (i, j) ∈ octant r ∧ (i = r ∨ j = r) := by
  have hfrom := octantFrom_octant r
  cases hoct : octant r with
  | nil =>
    rw [hoct] at hfrom
    exact absurd hr (not_lt.2 hfrom)
  | cons p ps =>
    rw [hoct] at hfrom
    obtain ⟨-, rfl, -⟩ := hfrom
    refine ⟨_, _, List.mem_cons_self, ?_⟩
    split
    next hout => left; linarith
    next => exact .inr rfl

/-! ### Which pixels the circle procedures attempt -/

/-- What is attempted for each pair of `Octant(r)`, where the pairs are known to be offsets. -/
theorem mem_flatMap_octant {r : Int} {f : Point → List Point} {p : Point} {shape : Int → Int → Prop}
    (hshape : ∀ i j, 1 ≤ i → 0 ≤ j → (p ∈ f (i, j) ↔ shape i j)) :
    p ∈ (octant r).flatMap f ↔ ∃ i j, (i, j) ∈ octant r ∧ shape i j := by
  simp only [List.mem_flatMap, Prod.exists]
  refine exists_congr fun i => exists_congr fun j => and_congr_right fun hmem => ?_
  obtain ⟨hi, -, hj, -⟩ := octant_bounds hmem
  exact hshape i j hi hj

/-- The two positions at a distance from the centre, along one axis. -/
theorem abs_sub_eq_iff {c d p : Int} (hd : 0 ≤ d) : |p - c| = d ↔ p = c + d ∨ p = c - d := by
  rw [abs_eq hd]
  omega

/-- The eight positions at two offsets from the centre (R182). -/
theorem atOffsets_iff {x0 y0 i j px py : Int} (hi : 0 ≤ i) (hj : 0 ≤ j) : AtOffsets x0 y0 i j px py ↔
    ((px = x0 + i ∨ px = x0 - i) ∧ (py = y0 + j ∨ py = y0 - j)) ∨
      ((px = x0 + j ∨ px = x0 - j) ∧ (py = y0 + i ∨ py = y0 - i)) := by
  rw [AtOffsets, abs_sub_eq_iff hi, abs_sub_eq_iff hj, abs_sub_eq_iff hi, abs_sub_eq_iff hj]

/-- `CIRCLE` attempts its axis points and the symmetric points of `Octant(r)` (R182). -/
theorem mem_circlePoints (x0 y0 r px py : Int) : (px, py) ∈ circlePoints x0 y0 r ↔ OnCircle x0 y0 r px py := by
  unfold circlePoints OnCircle
  split
  next hneg => simp only [List.not_mem_nil, not_le.2 hneg, false_and]
  next hnonneg =>
    have hr : 0 ≤ r := not_lt.1 hnonneg
    rw [List.mem_append, and_iff_right hr]
    refine or_congr ?_ (mem_flatMap_octant fun i j hi hj => ?_)
    · simp only [List.mem_cons, List.not_mem_nil, or_false, Prod.mk.injEq, atOffsets_iff hr le_rfl]
      grind
    · simp only [List.mem_cons, List.not_mem_nil, or_false, Prod.mk.injEq, atOffsets_iff (by omega : 0 ≤ i) hj]
      grind

/-- `CircleQ` attempts the symmetric points of `Octant(r)` in the selected quadrants (R183). -/
theorem mem_circleqPoints (x0 y0 r : Int) (corners : Nibble) (px py : Int) :
    (px, py) ∈ circleqPoints x0 y0 r corners ↔ OnCircleQ x0 y0 r corners px py := by
  unfold circleqPoints OnCircleQ
  split
  next hneg => simp [octant_of_nonpos hneg.le]
  next =>
    refine mem_flatMap_octant fun i j hi hj => ?_
    simp only [List.mem_append, List.mem_ite_nil_right, List.mem_cons, List.not_mem_nil, or_false, Prod.mk.injEq,
      atOffsets_iff (by omega : 0 ≤ i) hj, InQuadrant, or_assoc]
    simp only [maskBit]
    grind

/-- `FCircleQ` attempts the spans at the offsets of `Octant(r)` on the selected sides (R184). -/
theorem mem_fcircleqPoints (x0 y0 r : Int) (sides : Nibble) (delta px py : Int) :
    (px, py) ∈ fcircleqPoints x0 y0 r sides delta ↔ OnFCircleQ x0 y0 r sides delta px py := by
  unfold fcircleqPoints OnFCircleQ
  split
  next hneg => simp [octant_of_nonpos hneg.le]
  next =>
    refine mem_flatMap_octant fun i j hi hj => ?_
    simp only [List.mem_append, List.mem_ite_nil_right, mem_vlinePoints, OnVLine, OnSide]
    simp only [maskBit]
    grind

/-- `FCIRCLE` attempts the centre column and both helper passes (R185). -/
theorem mem_fcirclePoints (x0 y0 r px py : Int) : (px, py) ∈ fcirclePoints x0 y0 r ↔ OnFCircle x0 y0 r px py := by
  unfold fcirclePoints OnFCircle
  split
  next hneg => simp only [List.not_mem_nil, not_le.2 hneg, false_and]
  next hnonneg =>
    rw [List.mem_append, mem_vlinePoints, mem_fcircleqPoints, and_iff_right (not_lt.1 hnonneg)]
    exact or_congr_left (and_congr_right fun _ => by omega)

/-! ### The filled circle against the outline -/

/-- With both sides selected a column is given by its distance from the centre (R184). -/
theorem onSide_both {x0 d px : Int} (hd : 0 ≤ d) : OnSide 3 x0 d px ↔ |px - x0| = d := by
  rw [abs_sub_eq_iff hd]
  simp [OnSide]

/-- `FCIRCLE` by distances from the centre: in the column of each outline pixel, everything no further from the centre row
than that pixel (R185). -/
theorem onFCircle_iff (x0 y0 r px py : Int) : OnFCircle x0 y0 r px py ↔ 0 ≤ r ∧ ((|px - x0| = 0 ∧ |py - y0| ≤ r) ∨
    ∃ i j, (i, j) ∈ octant r ∧ ((|px - x0| = i ∧ |py - y0| ≤ j) ∨ (|px - x0| = j ∧ |py - y0| ≤ i))) := by
  have hspan (d : Int) : (y0 - d ≤ py ∧ py ≤ y0 + d) ↔ |py - y0| ≤ d := by
    rw [abs_le]
    omega
  refine and_congr_right fun _ => or_congr ?_ ?_
  · rw [abs_eq_zero, sub_eq_zero, hspan]
  · refine exists_congr fun i => exists_congr fun j => and_congr_right fun hmem => ?_
    obtain ⟨hi, -, hj, -⟩ := octant_bounds hmem
    rw [onSide_both (by omega : 0 ≤ i), onSide_both hj, add_zero, add_zero, hspan, hspan]

/-- `FCIRCLE` covers the outline of `CIRCLE` and everything between its pixels in each column; the outermost columns, where
`CIRCLE` has an axis point, are columns of the first pair (R185). -/
theorem onFCircle_iff_exists_onCircle (x0 y0 r px py : Int) :
    OnFCircle x0 y0 r px py ↔ ∃ qy, OnCircle x0 y0 r px qy ∧ |py - y0| ≤ |qy - y0| := by
  rw [onFCircle_iff]
  constructor
  · rintro ⟨hr, ⟨hx, hy⟩ | ⟨i, j, hmem, hxy⟩⟩
    · have hq : |y0 + r - y0| = r := by rw [add_sub_cancel_left, abs_of_nonneg hr]
      exact ⟨y0 + r, ⟨hr, .inl (.inr ⟨hx, hq⟩)⟩, hq.symm ▸ hy⟩
    · obtain ⟨hi, -, hj, -⟩ := octant_bounds hmem
      have hqi : |y0 + i - y0| = i := by rw [add_sub_cancel_left, abs_of_nonneg (by omega)]
      have hqj : |y0 + j - y0| = j := by rw [add_sub_cancel_left, abs_of_nonneg hj]
      rcases hxy with ⟨hx, hy⟩ | ⟨hx, hy⟩
      · exact ⟨y0 + j, ⟨hr, .inr ⟨i, j, hmem, .inl ⟨hx, hqj⟩⟩⟩, hqj.symm ▸ hy⟩
      · exact ⟨y0 + i, ⟨hr, .inr ⟨i, j, hmem, .inr ⟨hx, hqi⟩⟩⟩, hqi.symm ▸ hy⟩
  · rintro ⟨qy, ⟨hr, (⟨hx, hq⟩ | ⟨hx, hq⟩) | ⟨i, j, hmem, hxq⟩⟩, hy⟩
    · refine ⟨hr, ?_⟩
      rcases hr.eq_or_lt with rfl | hpos
      · exact .inl ⟨hx, hq ▸ hy⟩
      · obtain ⟨i, j, hmem, hfull⟩ := exists_octant_full hpos
        obtain ⟨hi, -, hj, -⟩ := octant_bounds hmem
        refine .inr ⟨i, j, hmem, hfull.imp ?_ ?_⟩
        · exact fun hfull => ⟨hx.trans hfull.symm, by omega⟩
        · exact fun hfull => ⟨hx.trans hfull.symm, by omega⟩
    · exact ⟨hr, .inl ⟨hx, hq ▸ hy⟩⟩
    · exact ⟨hr, .inr ⟨i, j, hmem, hxq.imp (fun ⟨hx, hq⟩ => ⟨hx, hq ▸ hy⟩) fun ⟨hx, hq⟩ => ⟨hx, hq ▸ hy⟩⟩⟩

/-! ### FCIRCLEQ -/

/-- `FCIRCLEQ` has a legal header exactly when only the two side bits of `AUX` are used (R95). -/
theorem fcircleq_wellFormed_iff (x0 y0 r delta : Word) (sides col : Nibble) :
    (Instr.fcircleq x0 y0 r delta sides col).wellFormed = true ↔ sides.toNat < 4 := by
  simp only [Instr.wellFormed]
  revert sides
  decide

/-- A legal header draws (R184). -/
theorem execFcircleq_of_lt {sides : Nibble} (hsides : sides.toNat < 4) (x0 y0 r delta : Word) (col : Nibble) (s : State) :
    execFcircleq x0 y0 r delta sides col s =
      .next (s.draw (norm col) (fcircleqPoints (signed x0) (signed y0) (signed r) sides (signed delta))) :=
  if_pos ((fcircleq_wellFormed_iff ..).2 hsides)

/-- An illegal header locks (R99; log 14). -/
theorem execFcircleq_of_le {sides : Nibble} (hsides : 4 ≤ sides.toNat) (x0 y0 r delta : Word) (col : Nibble) (s : State) :
    execFcircleq x0 y0 r delta sides col s = .next s.lock :=
  if_neg fun hwf => absurd ((fcircleq_wellFormed_iff ..).1 hwf) (not_lt.2 hsides)

/-! ### Rounded rectangles -/

/-- `RClamp` is the clamped radius of a rectangle that is not empty (R186). -/
theorem rclamp_eq_clampedRadius {w h : Int} (hw : 0 < w) (hh : 0 < h) (r : Int) : rclamp w h r = clampedRadius w h r := by
  unfold rclamp clampedRadius
  omega

/-- The clamped radius is at most half of either side (R186). -/
theorem clampedRadius_bounds {w h : Int} (hw : 0 < w) (hh : 0 < h) (r : Int) :
    0 ≤ clampedRadius w h r ∧ 2 * clampedRadius w h r ≤ w ∧ 2 * clampedRadius w h r ≤ h := by
  unfold clampedRadius
  omega

/-- What is attempted only in a rectangle that is not empty (R187, R188). -/
theorem mem_ite_empty {w h : Int} {p : Point} {ps : List Point} :
    (p ∈ if w ≤ 0 ∨ h ≤ 0 then [] else ps) ↔ 0 < w ∧ 0 < h ∧ p ∈ ps := by
  rw [List.mem_ite_nil_left, not_or, not_le, not_le, and_assoc]

/-- `RRECT` attempts its shortened edges and quarter circles, of the clamped radius (R187). -/
theorem mem_rrectPoints (x y w h r px py : Int) : (px, py) ∈ rrectPoints x y w h r ↔ OnRRect x y w h r px py := by
  rw [rrectPoints, mem_ite_empty]
  refine and_congr_right fun hw => and_congr_right fun hh => ?_
  simp only [rclamp_eq_clampedRadius hw hh, rrectClamped, List.mem_append, mem_hlinePoints, mem_vlinePoints,
    mem_circleqPoints, or_assoc, OnRoundedOutline]

/-- `FRRECT` attempts its central rectangle and helper passes, of the clamped radius (R188). -/
theorem mem_frrectPoints (x y w h r px py : Int) : (px, py) ∈ frrectPoints x y w h r ↔ OnFRRect x y w h r px py := by
  rw [frrectPoints, mem_ite_empty]
  refine and_congr_right fun hw => and_congr_right fun hh => ?_
  simp only [rclamp_eq_clampedRadius hw hh, frrectClamped, List.mem_append, mem_frectPoints, mem_fcircleqPoints, or_assoc,
    OnRoundedFill]

/-! ### Where the rounded rectangles lie -/

/-- The points of `CircleQ` are within the radius, in a selected quadrant; there are none for radius 0 (R183). -/
theorem bounds_of_onCircleQ {x0 y0 r px py : Int} {corners : Nibble} (hon : OnCircleQ x0 y0 r corners px py) :
    1 ≤ r ∧ (x0 - r ≤ px ∧ px ≤ x0 + r) ∧ (y0 - r ≤ py ∧ py ≤ y0 + r) ∧ InQuadrant corners x0 y0 px py := by
  obtain ⟨i, j, hmem, hoff, hquad⟩ := hon
  obtain ⟨hi, hir, hj, hjr⟩ := octant_bounds hmem
  rw [atOffsets_iff (by omega) hj] at hoff
  exact ⟨by omega, by omega, by omega, hquad⟩

/-- The spans of `FCircleQ` lie in columns within the radius on a selected side, and reach no further up than the radius, nor
further down than the radius and the stretch; there are none for radius 0 (R184). -/
theorem bounds_of_onFCircleQ {x0 y0 r delta px py : Int} {sides : Nibble} (hon : OnFCircleQ x0 y0 r sides delta px py) :
    1 ≤ r ∧ (∃ d, 0 ≤ d ∧ d ≤ r ∧ OnSide sides x0 d px) ∧ y0 - r ≤ py ∧ py ≤ y0 + r + delta := by
  obtain ⟨i, j, hmem, hspan⟩ := hon
  obtain ⟨hi, hir, hj, hjr⟩ := octant_bounds hmem
  rcases hspan with ⟨hside, htop, hbottom⟩ | ⟨hside, htop, hbottom⟩
  · exact ⟨by omega, ⟨i, by omega, hir, hside⟩, by omega, by omega⟩
  · exact ⟨by omega, ⟨j, hj, hjr, hside⟩, by omega, by omega⟩

/-- The four masks of `RRECT` select one quadrant each (R183, R187). -/
theorem inQuadrant_single {x0 y0 px py : Int} :
    (InQuadrant 1 x0 y0 px py ↔ px ≤ x0 ∧ py ≤ y0) ∧ (InQuadrant 2 x0 y0 px py ↔ x0 ≤ px ∧ py ≤ y0) ∧
      (InQuadrant 4 x0 y0 px py ↔ x0 ≤ px ∧ y0 ≤ py) ∧ (InQuadrant 8 x0 y0 px py ↔ px ≤ x0 ∧ y0 ≤ py) := by
  simp [InQuadrant]

/-- The two masks of `FRRECT` select one side each (R184, R188). -/
theorem onSide_single {x0 d px : Int} : (OnSide 1 x0 d px ↔ px = x0 + d) ∧ (OnSide 2 x0 d px ↔ px = x0 - d) := by
  simp [OnSide]

/-- Each quarter circle of `RRECT` stays on its side of its centre, and so inside the rectangle (R186, R187). -/
theorem inRect_of_onRRect {x y w h r px py : Int} (hon : OnRRect x y w h r px py) : InRect x y w h px py := by
  obtain ⟨hw, hh, hon⟩ := hon
  obtain ⟨hr, hrw, hrh⟩ := clampedRadius_bounds hw hh r
  unfold OnRoundedOutline OnHLine OnVLine at hon
  unfold InRect
  rcases hon with htop | hbottom | hleft | hright | hq | hq | hq | hq
  · omega
  · omega
  · omega
  · omega
  all_goals
    obtain ⟨hpos, hx, hy, hquad⟩ := bounds_of_onCircleQ hq
    simp only [inQuadrant_single] at hquad
    omega

/-- Each helper pass of `FRRECT` stays on its side of its centre, and so inside the rectangle (R186, R188). -/
theorem inRect_of_onFRRect {x y w h r px py : Int} (hon : OnFRRect x y w h r px py) : InRect x y w h px py := by
  obtain ⟨hw, hh, hon⟩ := hon
  obtain ⟨hr, hrw, hrh⟩ := clampedRadius_bounds hw hh r
  unfold InRect
  rcases hon with hcentre | hpass | hpass
  · unfold InRect at hcentre; omega
  all_goals
    obtain ⟨hpos, ⟨d, hd, hdr, hside⟩, htop, hbottom⟩ := bounds_of_onFCircleQ hpass
    simp only [onSide_single] at hside
    omega

/-! ### A radius that clamps to 0 -/

/-- A quarter circle of radius 0 is empty, its centre included (R183). -/
theorem circleqPoints_zero (x0 y0 : Int) (corners : Nibble) : circleqPoints x0 y0 0 corners = [] := by
  simp [circleqPoints, octant_of_nonpos]

/-- A helper pass of radius 0 is empty, whatever its stretch (R184). -/
theorem fcircleqPoints_zero (x0 y0 : Int) (sides : Nibble) (delta : Int) : fcircleqPoints x0 y0 0 sides delta = [] := by
  simp [fcircleqPoints, octant_of_nonpos]

/-- A rectangle without columns or without rows has no pixels (R166). -/
theorem frectPoints_of_empty {w h : Int} (hempty : w ≤ 0 ∨ h ≤ 0) (x y : Int) : frectPoints x y w h = [] := by
  refine List.eq_nil_iff_forall_not_mem.2 fun ⟨px, py⟩ hmem => ?_
  rw [mem_frectPoints, InRect] at hmem
  omega

/-- The radius clamps to 0 when it is not positive or a side is at most 1 (R186). -/
theorem rclamp_eq_zero {w h r : Int} (hw : 0 < w) (hh : 0 < h) (hzero : r ≤ 0 ∨ w ≤ 1 ∨ h ≤ 1) : rclamp w h r = 0 := by
  unfold rclamp
  omega

/-- With a radius that clamps to 0 `RRECT` attempts the pixels of `RECT` in the same order (R189). -/
theorem rrectPoints_of_zero {w h r : Int} (hzero : r ≤ 0 ∨ w ≤ 1 ∨ h ≤ 1) (x y : Int) :
    rrectPoints x y w h r = rectPoints x y w h := by
  unfold rrectPoints rectPoints
  split
  next => rfl
  next hsome =>
    rw [rclamp_eq_zero (by omega) (by omega) hzero]
    simp [rrectClamped, circleqPoints_zero]

/-- With a radius that clamps to 0 `FRRECT` attempts the pixels of `FRECT` in the same order (R189). -/
theorem frrectPoints_of_zero {w h r : Int} (hzero : r ≤ 0 ∨ w ≤ 1 ∨ h ≤ 1) (x y : Int) :
    frrectPoints x y w h r = frectPoints x y w h := by
  unfold frrectPoints
  split
  next hempty => exact (frectPoints_of_empty hempty x y).symm
  next hsome =>
    rw [rclamp_eq_zero (by omega) (by omega) hzero]
    simp [frrectClamped, fcircleqPoints_zero]

end Sys2Proof.Machine

namespace Sys2Proof

open Machine Claims

/-- Settles O39: the loop keeps its `f` at the circle's equation, and that equation determines the list whatever number of
iterations is allowed. -/
theorem octantFacts : Obligations.OctantFacts := by
  refine ⟨octantFrom_octant, fun r i j => octant_bounds, fun r n hn => ?_, ?_⟩
  · exact octantFrom_unique (octantFrom_start hn) (octantFrom_octant r)
  · decide

/-- Settles O40. -/
theorem circleResult : Obligations.CircleResult :=
  fun s _ _ _ col => ⟨_, rfl, draw_drawn (norm col) _ _ s (mem_circlePoints _ _ _)⟩

/-- Settles O41. -/
theorem circleqResult : Obligations.CircleqResult :=
  fun s _ _ _ _ col => ⟨_, rfl, draw_drawn (norm col) _ _ s (mem_circleqPoints _ _ _ _)⟩

/-- Settles O42. -/
theorem fcircleqResult : Obligations.FcircleqResult :=
  fun s x0 y0 r delta _ col =>
    ⟨fun hlegal => ⟨_, execFcircleq_of_lt hlegal x0 y0 r delta col s,
      draw_drawn (norm col) _ _ s (mem_fcircleqPoints _ _ _ _ _)⟩,
    fun hill => execFcircleq_of_le hill x0 y0 r delta col s⟩

/-- Settles O43: both shapes are said by distances from the centre. -/
theorem fcircleResult : Obligations.FcircleResult := by
  refine ⟨fun s x0 y0 r col => ⟨_, rfl, draw_drawn (norm col) _ _ s (mem_fcirclePoints _ _ _)⟩, fun x0 y0 r px py => ?_⟩
  simp only [mem_fcirclePoints, mem_circlePoints]
  exact onFCircle_iff_exists_onCircle x0 y0 r px py

/-- Settles O44. -/
theorem rrectResult : Obligations.RrectResult :=
  fun s _ _ _ _ _ col => ⟨_, rfl, draw_drawn (norm col) _ _ s (mem_rrectPoints _ _ _ _ _)⟩

/-- Settles O45. -/
theorem frrectResult : Obligations.FrrectResult :=
  fun s _ _ _ _ _ col => ⟨_, rfl, draw_drawn (norm col) _ _ s (mem_frrectPoints _ _ _ _ _)⟩

/-- Settles O46: each quarter stays on its side of its centre, and radius 0 leaves no quarters. -/
theorem roundedRectBounds : Obligations.RoundedRectBounds := by
  refine ⟨fun x y w h r px py hmem => inRect_of_onRRect ((mem_rrectPoints ..).1 hmem),
    fun x y w h r px py hmem => inRect_of_onFRRect ((mem_frrectPoints ..).1 hmem), fun s x y w h r col hzero => ?_⟩
  exact ⟨congrArg (fun ps => Host.Outcome.next (s.draw (norm col) ps)) (rrectPoints_of_zero hzero (signed x) (signed y)),
    congrArg (fun ps => Host.Outcome.next (s.draw (norm col) ps)) (frrectPoints_of_zero hzero (signed x) (signed y))⟩

end Sys2Proof
end

section
/-! PROOFS. Triangles (`44_triangles.md`): the running numerators of a sweep in closed form, the three-step sort, and that
neither command depends on the order of its vertices. -/

namespace Sys2Proof.Machine

open Claims

/-! ### Orders of three vertices -/

/-- The six orders of three things. -/
theorem perm_triple {α : Type} {a b c p q r : α} (hperm : [a, b, c].Perm [p, q, r]) :
    (a = p ∧ b = q ∧ c = r) ∨ (a = q ∧ b = p ∧ c = r) ∨ (a = q ∧ b = r ∧ c = p) ∨
      (a = p ∧ b = r ∧ c = q) ∨ (a = r ∧ b = p ∧ c = q) ∨ (a = r ∧ b = q ∧ c = p) := by
  simpa [List.permutations'] using List.mem_permutations'.2 hperm

/-- Permuted operands are permuted vertices (R93). -/
theorem perm_signed {x0 y0 x1 y1 x2 y2 a0 b0 a1 b1 a2 b2 : Word}
    (hperm : [(a0, b0), (a1, b1), (a2, b2)].Perm [(x0, y0), (x1, y1), (x2, y2)]) :
    [(signed a0, signed b0), (signed a1, signed b1), (signed a2, signed b2)].Perm
      [(signed x0, signed y0), (signed x1, signed y1), (signed x2, signed y2)] :=
  hperm.map (Prod.map signed signed)

/-! ### TRI -/

/-- `TRI` attempts the pixels of its three sides (R201). -/
theorem mem_triPoints (x0 y0 x1 y1 x2 y2 px py : Int) :
    (px, py) ∈ triPoints x0 y0 x1 y1 x2 y2 ↔ OnTri x0 y0 x1 y1 x2 y2 px py := by
  simp only [triPoints, List.mem_append, mem_linePoints, OnTri, or_assoc]

/-- A side does not depend on its direction (R163). -/
theorem onLine_comm (x0 y0 x1 y1 px py : Int) : OnLine x0 y0 x1 y1 px py ↔ OnLine x1 y1 x0 y0 px py := by
  rw [← mem_linePoints, linePoints_comm, mem_linePoints]

/-- Exchanging the first two vertices leaves the sides as they were (R201). -/
theorem onTri_swap_first (x0 y0 x1 y1 x2 y2 px py : Int) :
    OnTri x0 y0 x1 y1 x2 y2 px py ↔ OnTri x1 y1 x0 y0 x2 y2 px py := by
  rw [OnTri, OnTri, onLine_comm x0 y0 x1, onLine_comm x1 y1 x2, onLine_comm x2 y2 x0]
  tauto

/-- Exchanging the last two vertices leaves the sides as they were (R201). -/
theorem onTri_swap_last (x0 y0 x1 y1 x2 y2 px py : Int) :
    OnTri x0 y0 x1 y1 x2 y2 px py ↔ OnTri x0 y0 x2 y2 x1 y1 px py := by
  rw [OnTri, OnTri, onLine_comm x0 y0 x1, onLine_comm x1 y1 x2, onLine_comm x2 y2 x0]
  tauto

/-- The pixels of the sides do not depend on the order of the vertices (R201). -/
theorem onTri_perm {x0 y0 x1 y1 x2 y2 a0 b0 a1 b1 a2 b2 : Int}
    (hperm : [(a0, b0), (a1, b1), (a2, b2)].Perm [(x0, y0), (x1, y1), (x2, y2)]) (px py : Int) :
    OnTri a0 b0 a1 b1 a2 b2 px py ↔ OnTri x0 y0 x1 y1 x2 y2 px py := by
  rcases perm_triple hperm with ⟨⟨⟩, ⟨⟩, ⟨⟩⟩ | ⟨⟨⟩, ⟨⟩, ⟨⟩⟩ | ⟨⟨⟩, ⟨⟩, ⟨⟩⟩ | ⟨⟨⟩, ⟨⟩, ⟨⟩⟩ | ⟨⟨⟩, ⟨⟩, ⟨⟩⟩ | ⟨⟨⟩, ⟨⟩, ⟨⟩⟩
  · rfl
  · exact onTri_swap_first ..
  · rw [onTri_swap_last, onTri_swap_first]
  · exact onTri_swap_last ..
  · rw [onTri_swap_first, onTri_swap_last]
  · rw [onTri_swap_first, onTri_swap_last, onTri_swap_first]

/-- The side between two vertices on one row is a span (R164). -/
theorem mem_linePoints_horizontal (x0 x1 y px py : Int) :
    (px, py) ∈ linePoints x0 y x1 y ↔ py = y ∧ Between x0 x1 px := by
  rw [linePoints_horizontal, mem_hlinePoints, OnHLine, Between, abs_sub_comm, ← max_sub_min_eq_abs]
  omega

/-- With the three vertices on one row, the sides cover the span from the least x to the greatest (R203). -/
theorem mem_triPoints_horizontal (x0 x1 x2 y px py : Int) : (px, py) ∈ triPoints x0 y x1 y x2 y ↔
    py = y ∧ min x0 (min x1 x2) ≤ px ∧ px ≤ max x0 (max x1 x2) := by
  simp only [triPoints, List.mem_append, mem_linePoints_horizontal, Between]
  omega

/-! ### The three-step sort -/

/-- A compare-and-swap keeps the two vertices (R202 step 1). -/
theorem sortPair_perm (p q : Point) : [(sortPair p q).1, (sortPair p q).2].Perm [p, q] := by
  unfold sortPair
  split
  · exact List.Perm.swap _ _ _
  · exact List.Perm.refl _

/-- A compare-and-swap puts the lesser y first (R202 step 1). -/
theorem sortPair_fst_row (p q : Point) : (sortPair p q).1.2 = min p.2 q.2 := by
  unfold sortPair
  split <;> simp <;> omega

/-- A compare-and-swap puts the greater y last (R202 step 1). -/
theorem sortPair_snd_row (p q : Point) : (sortPair p q).2.2 = max p.2 q.2 := by
  unfold sortPair
  split <;> simp <;> omega

/-- The sort keeps the three vertices (R202 step 1). -/
theorem sortVertices_perm (p q r : Point) :
    [(sortVertices p q r).1, (sortVertices p q r).2.1, (sortVertices p q r).2.2].Perm [p, q, r] := by
  let a := sortPair p q
  let b := sortPair a.2 r
  calc
    List.Perm [(sortPair a.1 b.1).1, (sortPair a.1 b.1).2, b.2] [a.1, b.1, b.2] := (sortPair_perm ..).append_right [b.2]
    List.Perm _ [a.1, a.2, r] := (sortPair_perm ..).cons a.1
    List.Perm _ [p, q, r] := (sortPair_perm ..).append_right [r]

/-- The sort gives the three vertices in an order of rising y (R202 step 1). -/
theorem sortVertices_sorted (x0 y0 x1 y1 x2 y2 : Int) : SortedVertices x0 y0 x1 y1 x2 y2
    (sortVertices (x0, y0) (x1, y1) (x2, y2)).1 (sortVertices (x0, y0) (x1, y1) (x2, y2)).2.1
    (sortVertices (x0, y0) (x1, y1) (x2, y2)).2.2 := by
  refine ⟨sortVertices_perm .., ?_, ?_⟩ <;> simp only [sortVertices, sortPair_fst_row, sortPair_snd_row] <;> omega

/-! ### The sweeps of FTRI -/

/-- A sweep draws on each of its rows the span between the crossings that its running numerators have reached (R202). -/
theorem mem_sweep {xa dxa dya xb dxb dyb px py : Int} (n : Nat) (y sa sb : Int) :
    (px, py) ∈ sweep xa dxa dya xb dxb dyb n y sa sb ↔ y ≤ py ∧ py < y + n ∧
      Between (xa + Int.tdiv (sa + dxa * (py - y)) dya) (xb + Int.tdiv (sb + dxb * (py - y)) dyb) px := by
  induction n generalizing y sa sb with
  | zero => simp only [sweep, List.not_mem_nil, Nat.cast_zero, false_iff]; omega
  | succ n ih =>
    have hnext (s d : Int) : s + d + d * (py - (y + 1)) = s + d * (py - y) := by ring
    rw [sweep, List.mem_append, mem_spanPoints, ih, hnext, hnext, Nat.cast_succ]
    rcases eq_or_ne py y with rfl | hne
    · simp
    · have hrows : y + 1 ≤ py ∧ py < y + 1 + n ↔ y ≤ py ∧ py < y + (n + 1) := by omega
      simp only [hne, false_and, false_or, ← and_assoc, hrows]

/-- A sweep whose numerators start as if it had come down from the vertices `(xa, ya)` and `(xb, yb)` draws the spans
between the crossings of its two edges (R202 steps 5 and 6). -/
theorem mem_sweep_edges {xa ya xa' ya' xb yb xb' yb' y sa sb px py : Int} (hsa : sa = (xa' - xa) * (y - ya))
    (hsb : sb = (xb' - xb) * (y - yb)) (n : Nat) :
    (px, py) ∈ sweep xa (xa' - xa) (ya' - ya) xb (xb' - xb) (yb' - yb) n y sa sb ↔
      y ≤ py ∧ py < y + n ∧ Between (crossing xa ya xa' ya' py) (crossing xb yb xb' yb' py) px := by
  have hnum (d y' : Int) : d * (y - y') + d * (py - y) = d * (py - y') := by ring
  rw [mem_sweep, hsa, hsb, hnum, hnum, crossing, crossing]

/-- The rows that belong to the top half (R202 step 4). -/
theorem le_topLast_iff {y1 y2 y : Int} (hy : y ≤ y2) : y ≤ topLast y1 y2 ↔ y < y1 ∨ y1 = y2 := by
  unfold topLast
  split <;> omega

/-- The top half ends at most one row above the first one, and not below the last (R202 step 4). -/
theorem topLast_bounds {y0 y1 y2 : Int} (h01 : y0 ≤ y1) (h12 : y1 ≤ y2) :
    y0 - 1 ≤ topLast y1 y2 ∧ topLast y1 y2 ≤ y2 := by
  unfold topLast
  split <;> omega

/-- The fill draws its closed form: the top sweep on the rows up to `topLast`, the bottom sweep on those below (R202). -/
theorem mem_ftriSorted {p q r : Point} (hpq : p.2 ≤ q.2) (hqr : q.2 ≤ r.2) (px py : Int) :
    (px, py) ∈ ftriSorted p q r ↔ InSortedTri p q r px py := by
  obtain ⟨x0, y0⟩ := p
  obtain ⟨x1, y1⟩ := q
  obtain ⟨x2, y2⟩ := r
  simp only [ftriSorted, InSortedTri]
  split
  next hflat =>
    rw [mem_hlinePoints, OnHLine]
    omega
  next htall =>
    obtain ⟨hfirst, hlast⟩ : y0 - 1 ≤ topLast y1 y2 ∧ topLast y1 y2 ≤ y2 := topLast_bounds hpq hqr
    rw [List.mem_append, mem_sweep_edges (ya := y0) (yb := y0) (by ring) (by ring), mem_sweep_edges rfl rfl]
    by_cases hin : py ≤ y2
    · simp only [← le_topLast_iff hin, Between]
      split <;> omega
    · omega

/-! ### The order of the vertices of FTRI -/

/-- With all vertices on one row the fill is one span (R202 step 2, R203). -/
theorem inSortedTri_flat (x0 x1 x2 y px py : Int) : InSortedTri (x0, y) (x1, y) (x2, y) px py ↔
    py = y ∧ min x0 (min x1 x2) ≤ px ∧ px ≤ max x0 (max x1 x2) := by
  simp only [InSortedTri, if_true]
  omega

/-- The upper two vertices may be exchanged when they share a row: on every row the two crossings change places (R202). -/
theorem inSortedTri_swap_first {p q r : Point} (hpq : p.2 = q.2) (px py : Int) :
    InSortedTri p q r px py ↔ InSortedTri q p r px py := by
  obtain ⟨x0, y0⟩ := p
  obtain ⟨x1, y1⟩ := q
  obtain rfl : y0 = y1 := hpq
  simp only [InSortedTri, Between]
  refine and_congr_right fun htop => and_congr_right fun hbottom => ?_
  split
  next hflat => omega
  next htall =>
    have hlower : ¬ (py < y0 ∨ y0 = r.2) := by omega
    rw [if_neg hlower, if_neg hlower, min_comm, max_comm]

/-- The lower two vertices may be exchanged when they share a row: on every row the two crossings change places (R202). -/
theorem inSortedTri_swap_last {p q r : Point} (hqr : q.2 = r.2) (px py : Int) :
    InSortedTri p q r px py ↔ InSortedTri p r q px py := by
  obtain ⟨x1, y1⟩ := q
  obtain ⟨x2, y2⟩ := r
  obtain rfl : y1 = y2 := hqr
  simp only [InSortedTri, Between, or_true, if_true]
  refine and_congr_right fun htop => and_congr_right fun hbottom => ?_
  split
  next hflat => omega
  next htall => rw [min_comm, max_comm]

/-- Two orders by rising y of the same vertices differ by exchanges of neighbours on one row, so their fills
agree (R202). -/
theorem inSortedTri_perm {a b c p q r : Point} (hperm : [a, b, c].Perm [p, q, r]) (hab : a.2 ≤ b.2) (hbc : b.2 ≤ c.2)
    (hpq : p.2 ≤ q.2) (hqr : q.2 ≤ r.2) (px py : Int) : InSortedTri a b c px py ↔ InSortedTri p q r px py := by
  rcases perm_triple hperm with ⟨rfl, rfl, rfl⟩ | ⟨rfl, rfl, rfl⟩ | ⟨rfl, rfl, rfl⟩ | ⟨rfl, rfl, rfl⟩ |
    ⟨rfl, rfl, rfl⟩ | ⟨rfl, rfl, rfl⟩
  · rfl
  · exact inSortedTri_swap_first (by omega) px py
  · rw [inSortedTri_swap_last (by omega), inSortedTri_swap_first (by omega)]
  · exact inSortedTri_swap_last (by omega) px py
  · rw [inSortedTri_swap_first (by omega), inSortedTri_swap_last (by omega)]
  · rw [inSortedTri_swap_first (by omega), inSortedTri_swap_last (by omega), inSortedTri_swap_first (by omega)]

/-- `FTRI` attempts the fill of its vertices in any order by rising y (R202). -/
theorem mem_ftriPoints {x0 y0 x1 y1 x2 y2 : Int} {p q r : Point} (hsorted : SortedVertices x0 y0 x1 y1 x2 y2 p q r)
    (px py : Int) : (px, py) ∈ ftriPoints x0 y0 x1 y1 x2 y2 ↔ InSortedTri p q r px py := by
  obtain ⟨hperm, hpq, hqr⟩ := hsorted
  obtain ⟨hperm', hab, hbc⟩ := sortVertices_sorted x0 y0 x1 y1 x2 y2
  exact (mem_ftriSorted hab hbc px py).trans (inSortedTri_perm (hperm'.trans hperm.symm) hab hbc hpq hqr px py)

/-- `FTRI` attempts the pixels of its closed form (R202). -/
theorem mem_ftriPoints_iff (x0 y0 x1 y1 x2 y2 px py : Int) :
    (px, py) ∈ ftriPoints x0 y0 x1 y1 x2 y2 ↔ InFTri x0 y0 x1 y1 x2 y2 px py := by
  constructor
  · intro hmem
    have hsorted := sortVertices_sorted x0 y0 x1 y1 x2 y2
    exact ⟨_, _, _, hsorted, (mem_ftriPoints hsorted px py).1 hmem⟩
  · rintro ⟨p, q, r, hsorted, hin⟩
    exact (mem_ftriPoints hsorted px py).2 hin

/-- With the three vertices on one row `FTRI` attempts the span from the least x to the greatest (R203). -/
theorem mem_ftriPoints_horizontal (x0 x1 x2 y px py : Int) : (px, py) ∈ ftriPoints x0 y x1 y x2 y ↔
    py = y ∧ min x0 (min x1 x2) ≤ px ∧ px ≤ max x0 (max x1 x2) := by
  have hsorted : SortedVertices x0 y x1 y x2 y (x0, y) (x1, y) (x2, y) := ⟨List.Perm.refl _, le_rfl, le_rfl⟩
  rw [mem_ftriPoints hsorted, inSortedTri_flat]

/-- The pixels of the fill do not depend on the order of the vertices (R202). -/
theorem inFTri_perm {x0 y0 x1 y1 x2 y2 a0 b0 a1 b1 a2 b2 : Int}
    (hperm : [(a0, b0), (a1, b1), (a2, b2)].Perm [(x0, y0), (x1, y1), (x2, y2)]) (px py : Int) :
    InFTri a0 b0 a1 b1 a2 b2 px py ↔ InFTri x0 y0 x1 y1 x2 y2 px py := by
  simp only [InFTri, SortedVertices, hperm.congr_right]

end Sys2Proof.Machine

namespace Sys2Proof

open Machine Claims

/-- Settles O47. -/
theorem triResult : Obligations.TriResult :=
  fun s _ _ _ _ _ _ col => ⟨_, rfl, draw_drawn (norm col) _ _ s (mem_triPoints _ _ _ _ _ _)⟩

/-- Settles O48: permuted vertices have the same sides and the same orders by rising y, and the pixels alone determine the
state. -/
theorem vertexOrderIrrelevant : Obligations.VertexOrderIrrelevant := by
  intro s x0 y0 x1 y1 x2 y2 a0 b0 a1 b1 a2 b2 col hinv hperm
  refine ⟨congrArg Host.Outcome.next (draw_congr hinv.bufWf fun ⟨px, py⟩ => ?_),
    congrArg Host.Outcome.next (draw_congr hinv.bufWf fun ⟨px, py⟩ => ?_)⟩
  · rw [mem_triPoints, mem_triPoints]
    exact onTri_perm (perm_signed hperm) px py
  · rw [mem_ftriPoints_iff, mem_ftriPoints_iff]
    exact inFTri_perm (perm_signed hperm) px py

/-- Settles O49: each sweep meets its closed form row by row, and vertices on one row can change places. -/
theorem ftriResult : Obligations.FtriResult :=
  ⟨fun s _ _ _ _ _ _ col => ⟨_, rfl, draw_drawn (norm col) _ _ s (mem_ftriPoints_iff _ _ _ _ _ _)⟩,
    fun _ _ _ _ _ _ px py _ _ _ hsorted => mem_ftriPoints hsorted px py⟩

/-- Settles O50. -/
theorem flatTriangleIsOneSpan : Obligations.FlatTriangleIsOneSpan :=
  fun s _ _ _ _ col => ⟨⟨_, rfl, draw_drawn (norm col) _ _ s (mem_ftriPoints_horizontal _ _ _ _)⟩,
    ⟨_, rfl, draw_drawn (norm col) _ _ s (mem_triPoints_horizontal _ _ _ _)⟩⟩

end Sys2Proof
end

section
/-! PROOFS. Glyphs (`45_glyphs.md`): the blocks of a cell do not meet, so `CHAR` attempts no pixel twice, and `CHAR1` with a
legal W3 is `CHAR` at size 1. -/

namespace Sys2Proof.Machine

open Claims

variable {s : State}

/-! ### No pixel twice -/

/-- Lists that each have no repetition, and of which no two share an element, have none when joined. -/
theorem nodup_flatMap_range {α : Type} {n : Nat} {f : Nat → List α} (hnodup : ∀ i, (f i).Nodup)
    (hindex : ∀ i k p, p ∈ f i → p ∈ f k → i = k) : ((List.range n).flatMap f).Nodup :=
  List.nodup_flatMap.2 ⟨fun i _ => hnodup i,
    List.nodup_range.imp fun hne p hp hp' => hne (hindex _ _ p hp hp')⟩

/-- A block has no pixel twice. -/
theorem nodup_blockPoints (x y : Int) (size i j : Nat) : (blockPoints x y size i j).Nodup := by
  refine nodup_flatMap_range (fun a => List.nodup_range.map fun b b' heq => ?_) fun a a' p hp hp' => ?_
  · have hrow := congrArg Prod.snd heq
    simpa using hrow
  · obtain ⟨b, -, rfl⟩ := List.mem_map.1 hp
    obtain ⟨b', -, heq⟩ := List.mem_map.1 hp'
    have hcolumn := congrArg Prod.fst heq
    simpa using hcolumn.symm

/-- The blocks of a cell do not meet (R211). -/
theorem blockPoints_index_unique {x y : Int} {size i j k l : Nat} {p : Point} (hp : p ∈ blockPoints x y size i j)
    (hp' : p ∈ blockPoints x y size k l) : i = k ∧ j = l := by
  obtain ⟨px, py⟩ := p
  obtain ⟨hx, hx', hy, hy'⟩ := (mem_blockPoints x y size i j px py).1 hp
  obtain ⟨kx, kx', ly, ly'⟩ := (mem_blockPoints x y size k l px py).1 hp'
  rw [add_assoc, ← add_one_mul] at hx' hy' kx' ly'
  exact ⟨le_antisymm (strip_le hx kx') (strip_le kx hx'), le_antisymm (strip_le hy ly') (strip_le ly hy')⟩

/-- A logical pixel attempts no pixel twice: in either colour it attempts its block. -/
theorem nodup_glyphPixel_positions (x y : Int) (size : Nat) (bg fg : Bool) (line : Byte) (i j : Nat) :
    ((glyphPixel x y size bg fg line i j).map Prod.fst).Nodup := by
  have hblock (c : Bool) : (((blockPoints x y size i j).map fun p => (p, c)).map Prod.fst).Nodup := by
    simpa [Function.comp_def] using nodup_blockPoints x y size i j
  unfold glyphPixel
  split
  next hset => exact hblock fg
  next hclear =>
    split
    next hcolours => exact hblock bg
    next hskipped => exact List.nodup_nil

/-- What a logical pixel attempts lies in its block. -/
theorem mem_blockPoints_of_mem_glyphPixel {x y : Int} {size : Nat} {bg fg : Bool} {line : Byte} {i j : Nat} {p : Point}
    (hp : p ∈ (glyphPixel x y size bg fg line i j).map Prod.fst) : p ∈ blockPoints x y size i j := by
  obtain ⟨⟨q, c⟩, hq, rfl⟩ := List.mem_map.1 hp
  exact (mem_glyphPixel.1 hq).1

/-- `CHAR` attempts no pixel twice: its attempts go block by block (R212). -/
theorem nodup_charPoints_positions (x y : Int) (ch size : Nat) (bg fg : Bool) :
    ((s.charPoints x y ch size bg fg).map Prod.fst).Nodup := by
  simp only [State.charPoints, List.map_flatMap]
  refine nodup_flatMap_range (fun i => nodup_flatMap_range (fun j => nodup_glyphPixel_positions ..) ?_) ?_
  · intro j l p hp hp'
    exact (blockPoints_index_unique (mem_blockPoints_of_mem_glyphPixel hp) (mem_blockPoints_of_mem_glyphPixel hp')).2
  · intro i k p hp hp'
    obtain ⟨j, -, hp⟩ := List.mem_flatMap.1 hp
    obtain ⟨l, -, hp'⟩ := List.mem_flatMap.1 hp'
    exact (blockPoints_index_unique (mem_blockPoints_of_mem_glyphPixel hp) (mem_blockPoints_of_mem_glyphPixel hp')).1

/-! ### CHAR and CHAR1 -/

/-- `CHAR` draws its cell (R211). -/
theorem charPoints_drawn (s : State) (x y : Int) (ch size : Nat) (bg fg : Bool) :
    Drawn (GlyphInk s x y ch size bg fg) s (s.drawAll (s.charPoints x y ch size bg fg)) :=
  (drawAll_drawn _ s fun _ _ _ => charPoints_colour_unique).congr fun _ _ _ => mem_charPoints

/-- A word whose high byte is zero is one below 256 (R11). -/
theorem highByte_eq_zero_iff (w : Word) : highByte w = 0#8 ↔ w.toNat < 256 := by
  rw [← BitVec.toNat_inj, highByte, BitVec.extractLsb'_toNat, Nat.shiftRight_eq_div_pow, BitVec.toNat_zero]
  have hw : w.toNat < 2 ^ 16 := w.isLt
  omega

/-- The low byte of a word is its value modulo 256 (R11). -/
theorem lowByte_eq_setWidth (w : Word) : lowByte w = w.setWidth 8 := by
  rw [BitVec.setWidth_eq_extractLsb' (by decide), lowByte]

/-- `CHAR1` is legal exactly when the high byte of W3 is zero (R99, R213). -/
theorem char1_wellFormed_iff (x y w3 : Word) (bg fg : Nibble) :
    (Instr.char1 x y w3 bg fg).wellFormed = true ↔ w3.toNat < 256 :=
  beq_iff_eq.trans (highByte_eq_zero_iff w3)

/-- A legal `CHAR1` is `CHAR` of its low byte at size 1 (R213). -/
theorem execChar1_of_lt {w3 : Word} (hw3 : w3.toNat < 256) (x y : Word) (bg fg : Nibble) (s : State) :
    execChar1 x y w3 bg fg s = execChar x y (w3.setWidth 8) 1 bg fg s := by
  rw [execChar1, if_pos ((char1_wellFormed_iff ..).2 hw3), char1Points_eq_charPoints, lowByte_eq_setWidth]
  rfl

/-- An illegal `CHAR1` locks (R99; log 14). -/
theorem execChar1_of_le {w3 : Word} (hw3 : 256 ≤ w3.toNat) (x y : Word) (bg fg : Nibble) (s : State) :
    execChar1 x y w3 bg fg s = .next s.lock :=
  if_neg fun hwf => absurd ((char1_wellFormed_iff ..).1 hwf) (not_lt.2 hw3)

end Sys2Proof.Machine

namespace Sys2Proof

open Machine Claims

/-- Settles O51. -/
theorem charResult : Obligations.CharResult :=
  fun s _ _ _ _ bg fg => ⟨_, rfl, charPoints_drawn s _ _ _ _ (norm bg) (norm fg)⟩

/-- Settles O52: with a legal W3 the command is `CHAR` at size 1, of which O51 speaks. -/
theorem char1Result : Obligations.Char1Result := by
  refine fun s x y w3 bg fg => ⟨fun hlegal => ?_, fun hill => execChar1_of_le hill x y bg fg s⟩
  have hchar : exec (.char1 x y w3 bg fg) s = exec (.char x y (w3.setWidth 8) 1 bg fg) s :=
    execChar1_of_lt hlegal x y bg fg s
  have hcode : (w3.setWidth 8).toNat = w3.toNat := by
    rw [BitVec.toNat_setWidth, Nat.mod_eq_of_lt hlegal]
  refine ⟨hchar, ?_⟩
  rw [hchar, ← hcode]
  exact charResult s x y (w3.setWidth 8) 1 bg fg

/-- Settles O53: each block has no repetition, and the blocks do not meet. -/
theorem glyphPixelsOnce : Obligations.GlyphPixelsOnce :=
  fun _ => nodup_charPoints_positions

end Sys2Proof
end

section
/-! PROOFS. The intersection predicates (`46_predicates.md`): what they answer, that a drawing command attempts pixels only in
the rows of its extent, and that a command whose rows all lie outside the active band changes nothing. -/

namespace Sys2Proof.Machine

open Claims

variable {s : State}

/-! ### The answers -/

/-- The overlap test holds exactly when a row lies both in the extent and in the band (R221). -/
theorem rowsOverlap_iff (cursor : Nat) (y h : Int) :
    rowsOverlap cursor y h = true ↔ ∃ row : Int, y ≤ row ∧ row < y + h ∧ cursor ≤ row ∧ row ≤ cursor + 7 := by
  simp only [rowsOverlap, Bool.and_eq_true, decide_eq_true_eq]
  constructor
  · rintro ⟨⟨hpos, htop⟩, hbottom⟩
    exact ⟨max y cursor, by omega⟩
  · rintro ⟨row, hrow⟩
    omega

/-- The answer of a predicate about the rows `y .. y+h-1` (R221, R226). -/
def State.answerOverlap (s : State) (y h : Int) : State := s.respond (boolWord (rowsOverlap s.cursor y h))

/-- The answer is one response word, 1 exactly when the band has one of the rows. -/
theorem State.answerOverlap_spec (s : State) (y h : Int) :
    ∃ v, s.answerOverlap y h = { s with responses := s.responses ++ [v] } ∧ (v = 0 ∨ v = 1) ∧
      (v = 1 ↔ ∃ row : Int, y ≤ row ∧ row < y + h ∧ s.cursor ≤ row ∧ row ≤ s.cursor + 7) := by
  refine ⟨_, State.respond_boolWord _, ?_, ?_⟩
  · split <;> simp
  · rw [← rowsOverlap_iff]
    simp

/-- A negative answer says that each of the rows is above or below the band. -/
theorem State.offBand_of_answer_zero {y h : Int} (hzero : s.answerOverlap y h = { s with responses := s.responses ++ [0] })
    {row : Int} (htop : y ≤ row) (hbottom : row < y + h) : row < s.cursor ∨ (s.cursor : Int) + 8 ≤ row := by
  obtain ⟨v, hanswer, -, hone⟩ := s.answerOverlap_spec y h
  have hv : v = 0 := by
    have hresponses := congrArg State.responses (hanswer.symm.trans hzero)
    simpa using hresponses
  have hmiss : ¬ (s.cursor ≤ row ∧ row ≤ s.cursor + 7) := fun ⟨hlo, hhi⟩ => by
    have hhit : v = 1 := hone.2 ⟨row, htop, hbottom, hlo, hhi⟩
    omega
  omega

/-- `HITSPAN` answers for the rows `y .. y+h-1` (R221). -/
theorem execHitspan_eq (y h : Word) (s : State) : execHitspan y h s = .next (s.answerOverlap y.toInt h.toInt) := rfl

/-- `HITGLYPH` is legal exactly when the high byte of W2 is zero (R99, R222). -/
theorem hitglyph_wellFormed_iff (y w2 : Word) : (Instr.hitglyph y w2).wellFormed = true ↔ w2.toNat < 256 :=
  beq_iff_eq.trans (highByte_eq_zero_iff w2)

/-- A legal `HITGLYPH` answers for the rendered height of its glyph (R222). -/
theorem execHitglyph_of_lt {w2 : Word} (hw2 : w2.toNat < 256) (y : Word) (s : State) :
    execHitglyph y w2 s = .next (s.answerOverlap y.toInt (8 * w2.toNat)) := by
  have hsize : byteOperand (lowByte w2) = w2.toNat := by
    rw [byteOperand, lowByte_eq_setWidth, BitVec.toNat_setWidth, Nat.mod_eq_of_lt hw2]
  rw [execHitglyph, if_pos ((hitglyph_wellFormed_iff ..).2 hw2), hsize]
  rfl

/-- An illegal `HITGLYPH` locks (R99; log 14). -/
theorem execHitglyph_of_le {w2 : Word} (hw2 : 256 ≤ w2.toNat) (y : Word) (s : State) :
    execHitglyph y w2 s = .next s.lock :=
  if_neg fun hwf => absurd ((hitglyph_wellFormed_iff ..).1 hwf) (not_lt.2 hw2)

/-! ### Which pixels a command attempts -/

/-- The outcome is that of attempting, one after the other, the pixels of `ink` and no other (R160). -/
def Attempts (ink : Ink) (s : State) (o : Host.Outcome State Fault Refusal) : Prop :=
  ∃ ps, o = .next (s.drawAll ps) ∧ ∀ x y c, listInk ps x y c ↔ ink x y c

/-- Drawing the pixels of a shape in one colour. -/
theorem attempts_draw {c : Bool} {ps : List Point} {shape : Int → Int → Prop}
    (hshape : ∀ px py, (px, py) ∈ ps ↔ shape px py) : Attempts (inColour c shape) s (.next (s.draw c ps)) := by
  refine ⟨_, rfl, fun x y c' => ?_⟩
  rw [listInk_draw, inColour, inColour, hshape]

/-- `CHAR` attempts the pixels of its cell (R211). -/
theorem attempts_execChar (x y : Word) (ch size : Byte) (bg fg : Nibble) :
    Attempts (GlyphInk s x.toInt y.toInt ch.toNat size.toNat (bg != 0) (fg != 0)) s (execChar x y ch size bg fg s) :=
  ⟨_, rfl, fun _ _ _ => mem_charPoints⟩

/-- Each well-formed drawing command attempts the pixels of its ink (R160). -/
theorem attempts_exec {i : Instr} (hdraw : isDrawing i = true) (hwf : i.WellFormed) :
    Attempts (inkOf s i) s (exec i s) := by
  cases i with
  | setrate | poll | load | everyn | faults | needs | clear | flush | hitspan | hitglyph => exact nomatch hdraw
  | pixel x y col =>
    exact attempts_draw (ps := [(signed x, signed y)]) fun _ _ => List.mem_singleton.trans Prod.ext_iff
  | vline => exact attempts_draw (mem_vlinePoints _ _ _)
  | hline => exact attempts_draw (mem_hlinePoints _ _ _)
  | line => exact attempts_draw (mem_linePoints _ _ _ _)
  | rect => exact attempts_draw (mem_rectPoints _ _ _ _)
  | frect => exact attempts_draw (mem_frectPoints _ _ _ _)
  | circle => exact attempts_draw (mem_circlePoints _ _ _)
  | circleq => exact attempts_draw (mem_circleqPoints _ _ _ _)
  | fcircle => exact attempts_draw (mem_fcirclePoints _ _ _)
  | fcircleq x0 y0 r delta sides col =>
    have hexec : exec (.fcircleq x0 y0 r delta sides col) s = _ :=
      execFcircleq_of_lt ((fcircleq_wellFormed_iff ..).1 hwf) x0 y0 r delta col s
    rw [hexec]
    exact attempts_draw (mem_fcircleqPoints _ _ _ _ _)
  | rrect => exact attempts_draw (mem_rrectPoints _ _ _ _ _)
  | frrect => exact attempts_draw (mem_frrectPoints _ _ _ _ _)
  | tri => exact attempts_draw (mem_triPoints _ _ _ _ _ _)
  | ftri => exact attempts_draw (mem_ftriPoints_iff _ _ _ _ _ _)
  | char x y ch size bg fg => exact attempts_execChar x y ch size bg fg
  | char1 x y w3 bg fg =>
    have hexec : exec (.char1 x y w3 bg fg) s = _ := execChar1_of_lt ((char1_wellFormed_iff ..).1 hwf) x y bg fg s
    have hcode : (w3.setWidth 8).toNat = w3.toNat % 256 := BitVec.toNat_setWidth 8 w3
    rw [hexec, inkOf, ← hcode]
    exact attempts_execChar x y (w3.setWidth 8) 1 bg fg

/-! ### The rows of a shape -/

/-- Within the major distance, `Line` takes at most as many minor steps as the minor distance (R163). -/
theorem minorSteps_bounds {dx dy k : Int} (hdy : 0 ≤ dy) (hk : 0 ≤ k) (hkdx : k ≤ dx) :
    0 ≤ minorSteps dx dy k ∧ minorSteps dx dy k ≤ dy := by
  unfold minorSteps
  have hprod : 0 ≤ k * dy := mul_nonneg hk hdy
  rcases (hk.trans hkdx).eq_or_lt with rfl | hpos
  · simpa using hdy
  · refine ⟨Int.ediv_nonneg (by omega) hpos.le, Int.lt_add_one_iff.1 (Int.ediv_lt_of_lt_mul hpos ?_)⟩
    calc k * dy + dx - 1 - dx / 2
        < k * dy + dx := by omega
      _ ≤ dx * dy + dx := by gcongr
      _ = (dy + 1) * dx := by ring

/-- A line in its working frame stays between its endpoints on both axes (R163). -/
theorem bounds_of_onLineFrame {x0 y0 x1 y1 major minor : Int} (hon : OnLineFrame x0 y0 x1 y1 major minor) :
    Between x0 x1 major ∧ Between y0 y1 minor := by
  obtain ⟨hlo, hhi, hminor⟩ := hon
  obtain ⟨hsteps, hsteps'⟩ : 0 ≤ minorSteps (x1 - x0) |y1 - y0| (major - x0) ∧
      minorSteps (x1 - x0) |y1 - y0| (major - x0) ≤ |y1 - y0| :=
    minorSteps_bounds (abs_nonneg _) (by omega) (by omega)
  unfold Between
  refine ⟨by omega, ?_⟩
  split at hminor
  next hdown =>
    rw [abs_of_pos (sub_pos.2 hdown)] at *
    omega
  next hup =>
    rw [abs_of_nonpos (sub_nonpos.2 (not_lt.1 hup))] at *
    omega

/-- A line with its axes settled stays between its endpoints on both axes (R163). -/
theorem bounds_of_onLineOrdered {x0 y0 x1 y1 major minor : Int} (hon : OnLineOrdered x0 y0 x1 y1 major minor) :
    Between x0 x1 major ∧ Between y0 y1 minor := by
  unfold OnLineOrdered at hon
  split at hon
  next => simpa only [Between, min_comm, max_comm] using bounds_of_onLineFrame hon
  next => exact bounds_of_onLineFrame hon

/-- A line stays between the rows of its endpoints (R163). -/
theorem rows_of_onLine {x0 y0 x1 y1 px py : Int} (hon : OnLine x0 y0 x1 y1 px py) : Between y0 y1 py := by
  unfold OnLine at hon
  split at hon
  next => exact (bounds_of_onLineOrdered hon).1
  next => exact (bounds_of_onLineOrdered hon).2

/-- The outline of a circle stays within the radius of its centre row, and is empty for a negative radius (R182). -/
theorem rows_of_onCircle {x0 y0 r px py : Int} (hon : OnCircle x0 y0 r px py) : y0 - r ≤ py ∧ py ≤ y0 + r := by
  obtain ⟨hr, haxis | ⟨i, j, hmem, hoff⟩⟩ := hon
  · rw [atOffsets_iff hr le_rfl] at haxis
    omega
  · obtain ⟨hi, hir, hj, hjr⟩ := octant_bounds hmem
    rw [atOffsets_iff (by omega) hj] at hoff
    omega

/-- The filled circle stays within the radius of its centre row (R185). -/
theorem rows_of_onFCircle {x0 y0 r px py : Int} (hon : OnFCircle x0 y0 r px py) : y0 - r ≤ py ∧ py ≤ y0 + r := by
  obtain ⟨-, ⟨-, hrows⟩ | hpass⟩ := hon
  · exact hrows
  · obtain ⟨-, -, htop, hbottom⟩ := bounds_of_onFCircleQ hpass
    omega

/-- The row `y` lies between the uppermost and the lowermost of three rows. -/
def BetweenThree (y0 y1 y2 y : Int) : Prop := min y0 (min y1 y2) ≤ y ∧ y ≤ max y0 (max y1 y2)

/-- The sides of a triangle stay between the rows of its vertices (R204). -/
theorem rows_of_onTri {x0 y0 x1 y1 x2 y2 px py : Int} (hon : OnTri x0 y0 x1 y1 x2 y2 px py) :
    BetweenThree y0 y1 y2 py := by
  unfold BetweenThree
  rcases hon with hside | hside | hside
  all_goals
    obtain ⟨hlo, hhi⟩ := rows_of_onLine hside
    omega

/-- The fill of a triangle stays between the rows of its vertices (R204). -/
theorem rows_of_inFTri {x0 y0 x1 y1 x2 y2 px py : Int} (hon : InFTri x0 y0 x1 y1 x2 y2 px py) :
    BetweenThree y0 y1 y2 py := by
  obtain ⟨p, q, r, ⟨hperm, -, -⟩, htop, hbottom, -⟩ := hon
  have hvertex (v : Point) (hv : v ∈ [p, q, r]) : BetweenThree y0 y1 y2 v.2 := by
    have hcases : v = (x0, y0) ∨ v = (x1, y1) ∨ v = (x2, y2) := by simpa using hperm.mem_iff.1 hv
    unfold BetweenThree
    rcases hcases with rfl | rfl | rfl <;> dsimp only <;> omega
  obtain ⟨hfirst, -⟩ := hvertex p (by simp)
  obtain ⟨-, hlast⟩ := hvertex r (by simp)
  exact ⟨hfirst.trans htop, hbottom.trans hlast⟩

/-- A glyph cell is eight blocks high (R214). -/
theorem rows_of_glyphInk {x y : Int} {ch size : Nat} {bg fg : Bool} {px py : Int} {c : Bool}
    (hon : GlyphInk s x y ch size bg fg px py c) : y ≤ py ∧ py < y + 8 * size := by
  obtain ⟨i, j, -, hj, -, -, htop, hbottom, -⟩ := hon
  have hfirst : 0 ≤ (j : Int) * size := by positivity
  have hlast : ((j : Int) + 1) * size ≤ 8 * size := by gcongr; omega
  omega

/-- Every drawing command attempts pixels only in the rows of its extent (R224). -/
theorem rows_of_inkOf {i : Instr} {y h px py : Int} {c : Bool} (hext : extent i = some (y, h))
    (hon : inkOf s i px py c) : y ≤ py ∧ py < y + h := by
  cases i with
  | setrate | poll | load | everyn | faults | needs | clear | flush | hitspan | hitglyph => exact nomatch hext
  | pixel =>
    obtain ⟨-, -, rfl⟩ := hon
    cases hext
    omega
  | vline =>
    obtain ⟨-, -, hrows⟩ := hon
    cases hext
    exact hrows
  | hline =>
    obtain ⟨-, rfl, hcolumns⟩ := hon
    cases hext
    split <;> omega
  | line =>
    obtain ⟨hlo, hhi⟩ := rows_of_onLine hon.2
    cases hext
    rw [abs_sub_comm, ← max_sub_min_eq_abs]
    omega
  | rect =>
    obtain ⟨-, ⟨-, -, hrows⟩, -⟩ := hon
    cases hext
    exact hrows
  | frect =>
    obtain ⟨-, -, -, hrows⟩ := hon
    cases hext
    exact hrows
  | circle =>
    have hrows := rows_of_onCircle hon.2
    cases hext
    omega
  | circleq =>
    obtain ⟨-, -, hrows, -⟩ := bounds_of_onCircleQ hon.2
    cases hext
    omega
  | fcircle =>
    have hrows := rows_of_onFCircle hon.2
    cases hext
    omega
  | fcircleq =>
    obtain ⟨-, -, hrows⟩ := bounds_of_onFCircleQ hon.2
    cases hext
    omega
  | rrect =>
    obtain ⟨-, -, hrows⟩ := inRect_of_onRRect hon.2
    cases hext
    exact hrows
  | frrect =>
    obtain ⟨-, -, hrows⟩ := inRect_of_onFRRect hon.2
    cases hext
    exact hrows
  | tri =>
    obtain ⟨hlo, hhi⟩ := rows_of_onTri hon.2
    cases hext
    omega
  | ftri =>
    obtain ⟨hlo, hhi⟩ := rows_of_inFTri hon.2
    cases hext
    omega
  | char | char1 =>
    cases hext
    exact rows_of_glyphInk hon

/-! ### Soundness -/

/-- Pixel attempts on rows that are not reached do nothing (R143). -/
theorem State.drawAll_of_not_rowReached {ps : List (Point × Bool)} (hrows : ∀ p ∈ ps, ¬ RowReached s p.1.2) :
    s.drawAll ps = s := by
  induction ps with
  | nil => rfl
  | cons p ps ih =>
    have hfirst : s.drawPixel p.1 p.2 = s := State.drawPixel_of_not_rowReached p.2 (hrows p List.mem_cons_self)
    calc s.drawAll (p :: ps)
        = (s.drawPixel p.1 p.2).drawAll ps := rfl
      _ = s.drawAll ps := by rw [hfirst]
      _ = s := ih fun q hq => hrows q (List.mem_cons_of_mem p hq)

/-- A drawing command changes nothing when every row of its extent is above or below the band (R223). -/
theorem exec_eq_self_of_offBand {i : Instr} {y h : Int} (hwf : i.WellFormed) (hext : extent i = some (y, h))
    (hoff : ∀ row : Int, y ≤ row → row < y + h → row < s.cursor ∨ (s.cursor : Int) + 8 ≤ row) :
    exec i s = .next s := by
  have hdraw : isDrawing i = true := by rw [isDrawing, hext, Option.isSome_some]
  obtain ⟨ps, hexec, hink⟩ := attempts_exec (s := s) hdraw hwf
  have hrows : ∀ p ∈ ps, ¬ RowReached s p.1.2 := fun ⟨⟨px, py⟩, c⟩ hp => by
    obtain ⟨htop, hbottom⟩ := rows_of_inkOf hext ((hink px py c).1 hp)
    exact not_rowReached_of_offBand (hoff py htop hbottom)
  rw [hexec, State.drawAll_of_not_rowReached hrows]

end Sys2Proof.Machine

namespace Sys2Proof

open Machine Claims

/-- Settles O55: a drawing command attempts pixels only in the rows of its extent, and an answer of 0 says that no row of the
band is among them; the rows outside 0 .. HEIGHT+7, of which the sent extent may say nothing, are in no band. -/
theorem predicateSoundness : Obligations.PredicateSoundness := by
  refine ⟨fun s i y h yw hw hwf hcursor hext hcover hzero => ?_, fun s x y ch size bg fg hzero => ?_,
    fun s x y w3 bg fg hw3 hzero => ?_⟩
  · refine exec_eq_self_of_offBand hwf hext fun row htop hbottom => ?_
    by_cases hband : 0 ≤ row ∧ row ≤ s.build.height + 7
    · obtain ⟨hsent, hsent'⟩ := hcover row htop hbottom hband.1 hband.2
      have hanswer := (execHitspan_eq yw hw s).symm.trans hzero
      exact State.offBand_of_answer_zero (Host.Outcome.next.inj hanswer) hsent hsent'
    · omega
  · have hsize : (size.setWidth 16).toNat = size.toNat := BitVec.toNat_setWidth_of_le (by decide)
    have hanswer := (execHitglyph_of_lt (hsize ▸ size.isLt) y s).symm.trans hzero
    rw [hsize] at hanswer
    exact exec_eq_self_of_offBand rfl rfl fun row => State.offBand_of_answer_zero (Host.Outcome.next.inj hanswer)
  · have hanswer := (execHitglyph_of_lt (w2 := 1) (by decide) y s).symm.trans hzero
    exact exec_eq_self_of_offBand ((char1_wellFormed_iff x y w3 bg fg).2 hw3) rfl fun row =>
      State.offBand_of_answer_zero (Host.Outcome.next.inj hanswer)

/-- Settles O54. -/
theorem predicateResults : Obligations.PredicateResults := by
  refine ⟨fun s y h => ?_, fun s y w2 => ⟨fun hlegal => ?_, fun hill => execHitglyph_of_le hill y s⟩⟩
  · obtain ⟨v, hanswer, hv⟩ := s.answerOverlap_spec y.toInt h.toInt
    exact ⟨v, (execHitspan_eq y h s).trans (congrArg Host.Outcome.next hanswer), hv⟩
  · obtain ⟨v, hanswer, hv⟩ := s.answerOverlap_spec y.toInt (8 * w2.toNat)
    exact ⟨v, (execHitglyph_of_lt hlegal y s).trans (congrArg Host.Outcome.next hanswer), hv⟩

end Sys2Proof
end

section
/-! PROOFS. Exceptions and events (`60_exceptions.md`): which fault a command raises and what it leaves of `FAULT`, the tick
event as the only writer of `tickCount`, and the count of paint events between two grants. -/

namespace Sys2Proof.Machine

open Claims

variable {s t : State} {i : Instr}

/-! ### Faults (R231, R232) -/

theorem FaultBit.code_injective : Function.Injective FaultBit.code := by
  intro f g
  cases f <;> cases g <;> simp [FaultBit.code]

/-- Only drawing commands have ink (R160). -/
theorem isDrawing_of_inkOf {x y : Int} {c : Bool} (hink : inkOf s i x y c) : isDrawing i = true := by
  cases i with
  | setrate | poll | load | everyn | faults | needs | clear | flush | hitspan | hitglyph => exact hink.elim
  | _ => rfl

/-- Only drawing commands attempt a pixel off the edge (R143). -/
theorem isDrawing_of_offEdge (hoff : OffEdge (inkOf s i) s) : isDrawing i = true := by
  obtain ⟨-, _, _, _, hink, -⟩ := hoff
  exact isDrawing_of_inkOf hink

/-- The one fault that a command can raise, by its syntax alone (R231). -/
def faultOf (i : Instr) : FaultBit :=
  if i.wellFormed = false then .illegal
  else if isDrawing i then .oob
  else if i = .flush then .flushx
  else .divzero

/-- A command raises no fault but its own (R231). -/
theorem eq_faultOf_of_raises {f : FaultBit} (h : Raises i s f) : f = faultOf i := by
  cases f with
  | illegal => exact (if_pos h).symm
  | divzero => rcases h with rfl | ⟨rfl, -⟩ | rfl <;> rfl
  | flushx =>
    obtain ⟨rfl, -⟩ := h
    rfl
  | oob =>
    obtain ⟨hwf, hoff⟩ := h
    simp [faultOf, hwf, isDrawing_of_offEdge hoff]

/-- A well-formed drawing command sets OOB when a pixel of its ink is off the edge, and no fault otherwise (R143, R160). -/
theorem exec_fault_of_isDrawing (hdraw : isDrawing i = true) (hwf : i.WellFormed) (hexec : exec i s = .next t) :
    (OffEdge (inkOf s i) s → t.fault = s.fault ||| 0b1000#4) ∧ (¬ OffEdge (inkOf s i) s → t.fault = s.fault) := by
  obtain ⟨ps, e, hattempts⟩ := attempts_exec (s := s) hdraw hwf
  have hink : listInk ps = inkOf s i := by
    funext x y c
    exact propext (hattempts x y c)
  cases e.symm.trans hexec
  exact hink ▸ drawAll_fault ps s

/-- A zero rate, period or divisor sets DIVZERO (R121, R126, R127). -/
theorem exec_fault_of_divzero (hraises : Raises i s .divzero) (hexec : exec i s = .next t) :
    t.fault = s.fault ||| 0b0010#4 := by
  rcases hraises with rfl | ⟨rfl, hperiod⟩ | rfl
  · cases execSetrate_zero.symm.trans hexec
    rfl
  · cases (execLoad_of_zero hperiod).symm.trans hexec
    rfl
  · cases execEveryn_zero.symm.trans hexec
    rfl

/-- An ill-formed term sets ILLEGAL (R99; log 14). -/
theorem exec_fault_of_illegal (hill : i.wellFormed = false) (hexec : exec i s = .next t) :
    t.fault = s.fault ||| 0b0001#4 := by
  have hnot : ¬ i.WellFormed := by simp [hill]
  cases exec_hasEffect i s t hexec with
  | locks => rfl
  | draws _ _ _ _ hwf => exact absurd hwf hnot
  | answers _ _ _ _ hwf => exact absurd hwf hnot
  | answersDivzero _ hi => rcases hi with ⟨rfl, -⟩ | ⟨n, rfl, -⟩ <;> exact absurd rfl hnot
  | refusesRate | setsRate | suspends | early | grants | clears | paints | refusesFlush => exact absurd rfl hnot

/-- A command that raises a fault sets its bit and no other bit (R232). -/
theorem exec_fault_of_raises {f : FaultBit} (hraises : Raises i s f) (hexec : exec i s = .next t) :
    t.fault = s.fault ||| f.bit := by
  cases f with
  | illegal => exact exec_fault_of_illegal hraises hexec
  | divzero => exact exec_fault_of_divzero hraises hexec
  | flushx =>
    obtain ⟨rfl, hdone⟩ := hraises
    cases (execFlush_of_le hdone).symm.trans hexec
    rfl
  | oob =>
    obtain ⟨hwf, hoff⟩ := hraises
    exact (exec_fault_of_isDrawing (isDrawing_of_offEdge hoff) hwf hexec).1 hoff

/-- A command that raises no fault leaves `FAULT` as it is (R232). -/
theorem exec_fault_of_not_raises (hnone : ∀ f, ¬ Raises i s f) (hexec : exec i s = .next t) : t.fault = s.fault := by
  cases exec_hasEffect i s t hexec with
  | draws _ ps hdraw _ hwf => exact (exec_fault_of_isDrawing hdraw hwf hexec).2 fun hoff => hnone .oob ⟨hwf, hoff⟩
  | answersDivzero _ hi =>
    refine absurd ?_ (hnone .divzero)
    rcases hi with hload | ⟨n, rfl, hn⟩
    · exact .inr (.inl hload)
    · exact .inr (.inr (congrArg Instr.everyn (unsigned_eq_zero_iff.1 hn)))
  | refusesRate rate hrate => exact absurd (.inl (congrArg Instr.setrate (unsigned_eq_zero_iff.1 hrate))) (hnone .divzero)
  | refusesFlush hdone => exact absurd ⟨rfl, hdone⟩ (hnone .flushx)
  | locks _ hill => exact absurd (Bool.eq_false_iff.2 hill) (hnone .illegal)
  | answers | setsRate | suspends | early | grants | clears | paints => simp

/-! ### The tick event (R240) -/

/-- A tick event: the counter advances, and a suspended `POLL` wakes with the response 0. -/
theorem State.tick_spec (s : State) : s.tick = { s with
    tickCount := (s.tickCount + 1) % 2 ^ s.build.tickw
    sleeping := false
    responses := if s.sleeping then s.responses ++ [0] else s.responses } := by
  cases hsleep : s.sleeping <;> simp [State.tick, State.tickValue, State.respond_spec, hsleep]

/-- No command writes `tickCount` (R39). -/
theorem exec_tickCount (hexec : exec i s = .next t) : t.tickCount = s.tickCount := by
  obtain ⟨-, -, -, -, -, -, -, -, htick, -⟩ := onlyListedCommandsWrite s t i hexec
  exact htick

/-- A turn of the band engine leaves `tickCount` (R240). -/
theorem engineTurn_tickCount (hturn : engineTurn s = .next t) : t.tickCount = s.tickCount := by
  rcases engineTurn_cases s with ⟨-, e⟩ | ⟨-, -, e⟩ | ⟨-, -, i, rest, -, ⟨-, e⟩ | ⟨-, e⟩⟩ | ⟨-, -, _, rest, -, e⟩ |
    ⟨-, -, -, e⟩ <;> rw [e] at hturn
  · cases hturn; rfl
  · cases hturn; rfl
  · cases hturn; rfl
  · exact exec_tickCount (s := s.accepted rest) hturn
  · cases hturn; rfl
  · cases hturn; rfl

/-- Only a tick turn and a reset write `tickCount` (R240, R260). -/
theorem takeTurn_tickCount {turn : Turn} (htick : turn ≠ .tick) (hreset : turn ≠ .reset)
    (hturn : takeTurn turn s = .next t) : t.tickCount = s.tickCount := by
  cases turn with
  | engine => exact engineTurn_tickCount hturn
  | tick => exact absurd rfl htick
  | reset => exact absurd rfl hreset
  | hostSend | hostRead | transport =>
    cases hturn
    rfl

/-! ### The count of paint events (R247) -/

/-- From `s` to `t` the cursor has grown by 8 for each paint event, and is still on a band or at HEIGHT (R24, R146). -/
structure PaintsCounted (s t : State) : Prop where
  build : t.build = s.build
  cursorAligned : t.cursor % 8 = 0
  cursorRange : t.cursor ≤ t.build.height
  counted : t.cursor + 8 * s.paints.length = s.cursor + 8 * t.paints.length

theorem State.Inv.paintsCounted (h : s.Inv) : PaintsCounted s s := ⟨rfl, h.cursorAligned, h.cursorRange, rfl⟩

/-- What leaves the cursor and the paint channel leaves the count. -/
theorem PaintsCounted.frame {u : State} (h : PaintsCounted s u) (hbuild : t.build = u.build)
    (hcursor : t.cursor = u.cursor) (hpaints : t.paints = u.paints) : PaintsCounted s t where
  build := hbuild.trans h.build
  cursorAligned := hcursor ▸ h.cursorAligned
  cursorRange := by rw [hcursor, hbuild]; exact h.cursorRange
  counted := by rw [hcursor, hpaints]; exact h.counted

/-- Handing over a band is one paint event and 8 rows (R146). -/
theorem PaintsCounted.flushed_one {u : State} (h : PaintsCounted s u) (hband : u.cursor + 8 ≤ u.build.height) :
    PaintsCounted s (u.flushed 1) where
  build := h.build
  cursorAligned := (Nat.add_mod_right ..).trans h.cursorAligned
  cursorRange := hband
  counted := by
    have hcounted := h.counted
    simp only [State.flushed, List.length_append, List.length_map, List.length_range]
    omega

/-- `FLUSH` with a band left paints it; with none left it paints nothing (R146, R147). -/
theorem PaintsCounted.execFlush {u : State} (h : PaintsCounted s u) (hlegal : s.build.Legal)
    (hexec : execFlush u = .next t) : PaintsCounted s t := by
  rcases Nat.lt_or_ge u.cursor u.build.height with hleft | hdone
  · obtain ⟨_, _, hheight, _⟩ := hlegal
    have halign := h.cursorAligned
    have hband : u.cursor + 8 ≤ u.build.height := by
      rw [← h.build] at hheight
      omega
    cases (execFlush_eq_flushed hband).symm.trans hexec
    exact h.flushed_one hband
  · cases (execFlush_of_le hdone).symm.trans hexec
    exact h.frame rfl rfl rfl

/-- No command but a granting `POLL` breaks the count (R39, R123). -/
theorem PaintsCounted.exec {u : State} (h : PaintsCounted s u) (hlegal : s.build.Legal)
    (hgrant : i = .poll → t.pendingFlush = false) (hexec : exec i u = .next t) : PaintsCounted s t := by
  obtain ⟨-, -, hcursor, -, -, hpaints, -, -, -, hbuild, -⟩ := onlyListedCommandsWrite u t i hexec
  by_cases hflush : i = .flush
  · subst hflush
    exact h.execFlush hlegal hexec
  by_cases hpoll : i = .poll
  · subst hpoll
    obtain ⟨hkept, -⟩ := execPoll_notGranted hexec (hgrant rfl)
    exact h.frame hbuild hkept (hpaints hflush)
  · exact h.frame hbuild (hcursor hpoll hflush) (hpaints hflush)

/-- One event that is no granting `POLL`. -/
theorem PaintsCounted.event {u : State} (h : PaintsCounted s u) (hlegal : s.build.Legal) {e : Event}
    (hgrant : e = .command .poll → t.pendingFlush = false) (happly : e.apply u = .next t) : PaintsCounted s t := by
  cases e with
  | command i => exact h.exec hlegal (fun hpoll => hgrant (congrArg Event.command hpoll)) happly
  | tick =>
    cases happly
    exact h.frame u.tick_build u.tick_cursor u.tick_paints

/-- Any run of events without a grant. -/
theorem PaintsCounted.runEvents {u : State} {es : List Event} (h : PaintsCounted s u) (hlegal : s.build.Legal)
    (hgrant : noGrant es u = true) (hrun : runEvents es u = .next t) : PaintsCounted s t := by
  induction es generalizing u with
  | nil =>
    cases hrun
    exact h
  | cons e es ih =>
    obtain ⟨v, happly, hrest⟩ := (runEvents_cons_next e es u t).1 hrun
    obtain ⟨hfirst, hothers⟩ := (noGrant_cons e es u v happly).1 hgrant
    exact ih (h.event hlegal hfirst happly) hothers hrest

end Sys2Proof.Machine

namespace Sys2Proof

open Machine Claims

/-- Settles O13: the tick event as one update, and no other turn but reset reaches `tickCount`. -/
theorem tickEvent : Obligations.TickEvent := by
  refine ⟨fun s sch hsch => ?_, fun s t htick hreset hstep => ?_⟩
  · rw [step_of_schedule_cons hsch, takeTurn, State.tick_spec]
  · exact takeTurn_tickCount (s := { s with schedule := s.schedule.tail }) htick hreset hstep

/-- Settles O29: the cursor counts the paint events of the run, and ends at HEIGHT at the latest. -/
theorem paintCountBound : Obligations.PaintCountBound := by
  intro es s t hinv hgrant hrun
  have hcount := hinv.paintsCounted.runEvents hinv.legal hgrant hrun
  refine ⟨hcount.counted, ?_⟩
  have hcounted := hcount.counted
  have hrange := hcount.cursorRange
  rw [hcount.build] at hrange
  unfold Params.nbands
  omega

/-- Settles O57: a command that raises a fault raises only the one that belongs to it, and sets only that bit. -/
theorem faultsExactlyWhenRaised : Obligations.FaultsExactlyWhenRaised := by
  intro s t i f hexec
  by_cases hraised : ∃ g, Raises i s g
  · obtain ⟨g, hg⟩ := hraised
    have hbits : t.fault = (s.raise g).fault := exec_fault_of_raises hg hexec
    have hsame : f.code = g.code ↔ Raises i s f :=
      ⟨fun hcode => FaultBit.code_injective hcode ▸ hg,
        fun hf => by rw [eq_faultOf_of_raises hf, eq_faultOf_of_raises hg]⟩
    rw [hbits, State.raise_getLsbD, Bool.or_eq_true, decide_eq_true_iff, hsame]
  · have hnone : ∀ g, ¬ Raises i s g := not_exists.1 hraised
    rw [exec_fault_of_not_raises hnone hexec, or_iff_left (hnone f)]

end Sys2Proof
end

section
/-! PROOFS. Reset (`70_reset_and_hazards.md`): the state that it leaves, and what stays so until the first `POLL`. -/

namespace Sys2Proof.Machine

variable {s t : State}

/-- A block after reset, built with legal parameters, meets the invariant (R260, R262). -/
theorem resetWith_inv {p : Params} (hlegal : p.Legal) : (State.resetWith p).Inv where
  legal := hlegal
  bufWf := State.resetWith_wf p
  cursorAligned := rfl
  cursorRange := Nat.zero_le _
  nextFrameStartWidth := Nat.two_pow_pos _
  lastFrameStartWidth := Nat.two_pow_pos _
  lastFrameDurationWidth := Nat.two_pow_pos _
  tickCountWidth := Nat.two_pow_pos _
  period := rfl
  lockedIff := BitVec.getLsbD_zero.symm
  lockedQuiet := nofun
  sleepingQuiet := nofun
  checkedNoOob := fun _ => BitVec.getLsbD_zero
  heldWords := .inl rfl
  responseWidth := nofun
  readBound := Nat.le_refl 0
  paintForm := nofun

/-- After reset every column reads as the free value of that reset (R60, R262; log 3). -/
@[simp] theorem State.doReset_column (s : State) (x : Nat) :
    s.doReset.column x = Config.bufReset (s.resets + 1) x := rfl

theorem recommended_legal : Config.recommended.Legal := by decide

/-- A block with parameters `p` on which no `POLL` has executed since reset, `k` ticks ago: the pacer has its reset values
(R263). -/
structure BeforeFirstPoll (p : Params) (k : Nat) (t : State) : Prop where
  build : t.build = p
  tickCount : t.tickCount = k % 2 ^ p.tickw
  nextFrameStart : t.nextFrameStart = 0
  lastFrameDuration : t.lastFrameDuration = 0
  frameCounter : t.frameCounter = 0
  pendingFlush : t.pendingFlush = false

theorem State.doReset_beforeFirstPoll (s : State) : BeforeFirstPoll s.build 0 s.doReset :=
  ⟨rfl, (Nat.zero_mod _).symm, rfl, rfl, rfl, rfl⟩

/-- Commands other than `POLL` do not write the pacer's frame registers (R39). -/
theorem BeforeFirstPoll.exec {p : Params} {k : Nat} (h : BeforeFirstPoll p k s) {i : Instr} (hpoll : i ≠ .poll)
    (hexec : exec i s = .next t) : BeforeFirstPoll p k t := by
  obtain ⟨-, hpacer, -, -, -, -, -, -, htick, hbuild, -⟩ := onlyListedCommandsWrite s t i hexec
  obtain ⟨hnext, -, hduration, hcounter, hpend, -⟩ := hpacer hpoll
  exact ⟨hbuild.trans h.build, htick.trans h.tickCount, hnext.trans h.nextFrameStart,
    hduration.trans h.lastFrameDuration, hcounter.trans h.frameCounter, hpend.trans h.pendingFlush⟩

/-- A tick event counts (R240). -/
theorem BeforeFirstPoll.tick {p : Params} {k : Nat} (h : BeforeFirstPoll p k s) : BeforeFirstPoll p (k + 1) s.tick where
  build := s.tick_build.trans h.build
  tickCount := by rw [s.tick_tickCount, State.tickValue, h.build, h.tickCount, Nat.mod_add_mod]
  nextFrameStart := s.tick_nextFrameStart.trans h.nextFrameStart
  lastFrameDuration := s.tick_lastFrameDuration.trans h.lastFrameDuration
  frameCounter := s.tick_frameCounter.trans h.frameCounter
  pendingFlush := s.tick_pendingFlush.trans h.pendingFlush

/-- Any run without a `POLL` counts its ticks and leaves the rest (R263). -/
theorem BeforeFirstPoll.runEvents {p : Params} {k : Nat} {es : List Event} (h : BeforeFirstPoll p k s)
    (hpoll : Event.command .poll ∉ es) (hrun : runEvents es s = .next t) :
    BeforeFirstPoll p (k + es.count .tick) t := by
  induction es generalizing s k with
  | nil =>
    cases hrun
    exact h
  | cons e es ih =>
    obtain ⟨u, happly, hrest⟩ := (runEvents_cons_next e es s t).1 hrun
    obtain ⟨hfirst, hothers⟩ := not_or.1 (List.mem_cons.not.1 hpoll)
    cases e with
    | command i =>
      have hcount : (Event.command i :: es).count .tick = es.count .tick := List.count_cons_of_ne (by simp)
      rw [hcount]
      exact ih (h.exec (fun hi => hfirst (congrArg Event.command hi.symm)) happly) hothers hrest
    | tick =>
      cases happly
      rw [List.count_cons_self, Nat.add_comm (es.count .tick) 1, ← Nat.add_assoc]
      exact ih h.tick hothers hrest

/-- Within half the counter's range of reset the deadline 0 is not ahead (R125, R263). -/
theorem BeforeFirstPoll.late {p : Params} {k : Nat} (h : BeforeFirstPoll p k t) (htickw : 1 ≤ p.tickw)
    (hk : k ≤ 2 ^ (p.tickw - 1)) : early t.build.tickw t.slack = false := by
  have htest := early_tickDiff (deadline := 0) htickw (by omega : k ≤ 0 + 2 ^ (p.tickw - 1)) (by positivity)
  rw [State.slack, h.build, h.nextFrameStart, h.tickCount]
  simpa using htest

/-- A `POLL` that is not early grants (R123). -/
theorem execPoll_of_late (hlate : early s.build.tickw s.slack = false) :
    execPoll s = .next (s.closeFrame.grant.respond 1) := by
  rcases execPoll_cases s with ⟨hearly, -⟩ | ⟨hearly, -⟩ | ⟨-, e⟩
  · simp [hlate] at hearly
  · simp [hlate] at hearly
  · exact e

end Sys2Proof.Machine

namespace Sys2Proof

open Machine

/-- Settles O11: the parameters of `State.reset` are legal, so it is one of the blocks of the first clause. -/
theorem resetMeetsInvariant : Obligations.ResetMeetsInvariant :=
  ⟨fun _ hlegal => resetWith_inv hlegal, resetWith_inv recommended_legal⟩

/-- Settles O12: reset is one turn, and an empty `BUF` reads as the free value of the new reset in every column. -/
theorem resetEvent : Obligations.ResetEvent := by
  intro s sch hsch
  have hstep : step s = .next { s with schedule := sch }.doReset := step_of_schedule_cons hsch
  exact ⟨_, hstep, by simp⟩

/-- Settles O17: until the first `POLL` the deadline is that of reset, 0, which is not ahead of the clock for half its
range. -/
theorem firstPollAfterResetGrants : Obligations.FirstPollAfterResetGrants := by
  intro s t es hlegal hpoll hticks hrun
  obtain ⟨_, _, _, _, _, htickw⟩ := hlegal
  have hbefore : BeforeFirstPoll s.build (es.count .tick) t := by
    simpa using s.doReset_beforeFirstPoll.runEvents hpoll hrun
  have hnow : es.count .tick < 2 ^ s.build.tickw :=
    hticks.trans_lt (Nat.pow_lt_pow_right (by omega) (by omega))
  have hone : 1 % 2 ^ s.build.respw = 1 := Nat.mod_eq_of_lt (Nat.one_lt_two_pow (Nat.succ_ne_zero _))
  refine ⟨_, execPoll_of_late (hbefore.late (by omega) hticks), ?_⟩
  simp [State.tickValue, hbefore.build, hbefore.tickCount, hbefore.lastFrameDuration, hbefore.frameCounter,
    hbefore.pendingFlush, hone, Nat.mod_eq_of_lt hnow]

end Sys2Proof
end
